-- ==== Sys2Proof/Word.lean ====
section
/-! DEFINITION. The words of the ZA16: bytes, counters, revisions, station and point numbers, and timers. -/

namespace Sys2Proof

/-- One byte of a frame, a service message or the setup image. -/
abbrev Byte := BitVec 8

/-- A revision, 0 to 255; it wraps (R11). -/
abbrev Revision := BitVec 8

/-- A counter, 0 to 65535 (00_scope.md section 6). -/
abbrev Counter := BitVec 16

/-- A point of a station, 0 to 16 (R1). -/
abbrev PointNo := Fin 17

/-- An alarm group, 0 to 7 (R3). -/
abbrev GroupNo := Fin 8

/-- The number of an input IN0 to IN15 or an output OUT0 to OUT15. -/
abbrev LineNo := Fin 16

/-- A cadence phase, 0 to 1999 ms (R152). -/
abbrev Phase := Fin 2000

/-- A station number, 1 to 48 (00_scope.md section 5). -/
structure StationNo where
  number : Nat
  inRange : 1 ≤ number ∧ number ≤ 48
deriving DecidableEq, Repr

/-- The station of a number that is visibly 1 to 48. -/
def station (n : Nat) (h : 1 ≤ n ∧ n ≤ 48 := by decide) : StationNo := ⟨n, h⟩

/-- The place of a station in a table of 48 records kept in station number order. -/
def StationNo.index (s : StationNo) : Fin 48 := ⟨s.number - 1, by have := s.inRange; omega⟩

/-- The station at a place of such a table. -/
def StationNo.ofIndex (i : Fin 48) : StationNo := ⟨i.val + 1, by omega⟩

/-- The station of any number, if it is 1 to 48. -/
def StationNo.ofNat? (n : Nat) : Option StationNo :=
  if h : 1 ≤ n ∧ n ≤ 48 then some ⟨n, h⟩ else none

/-- All stations in number order. -/
def StationNo.all : List StationNo := (List.finRange 48).map StationNo.ofIndex

/-- A counter's advance: it stays at 65535 once there (00_scope.md section 6, Counters). -/
def Counter.bump (c : Counter) : Counter := if c = 65535#16 then c else c + 1#16

/-- `n` advances of a counter. -/
def Counter.bumpBy : Nat → Counter → Counter
  | 0, c => c
  | n + 1, c => Counter.bumpBy n (Counter.bump c)

/-- A timer: stopped, or running with its full length and the time elapsed, in ms. -/
inductive Timer where
  | stopped
  | running (length elapsed : Nat)
deriving DecidableEq, Repr

/-- The agreement timer of R163: it may also pause, keeping its time. In `following` the driven level has moved in the present
millisecond and the sense line has yet to move with it (log 13). -/
inductive AgreementTimer where
  | stopped
  | running (accumulated : Nat)
  | paused (accumulated : Nat)
  | following (accumulated : Nat)
deriving DecidableEq, Repr

end Sys2Proof
end

