-- ==== Sys2Proof/Syntax.lean ====
section
/-! DEFINITION. The commands of the ZA16: one constructor of `Instr` for each row of spec/opcode_table.json, with the
frame contents and request contents they carry. -/

namespace Sys2Proof

/-- The five sequence states of a point (R4). -/
inductive SeqState where
  | normal | alert | acked | unackCleared | ringback
deriving DecidableEq, Repr

/-- The four states a table entry or a DUMP record can hold: every sequence state but NORMAL (R33, R108). -/
inductive EntryState where
  | alert | acked | unackCleared | ringback
deriving DecidableEq, Repr

/-- The two operator actions an item can carry (R60, R65). -/
inductive Action where
  | ack | restore
deriving DecidableEq, Repr

/-- The cause a JOIN carries (R104, R109). -/
inductive JoinCause where
  | powerOn | resetPin | supplyLow | isolation | supplyRecovered
deriving DecidableEq, Repr

/-- The cause a LEAVE carries: SUPPLY_LOW is the one cause the part sends (R111). -/
inductive LeaveCause where
  | supplyLow
deriving DecidableEq, Repr

/-- A presence interval: 100, 250, 500 or 1000 ms (R104). -/
inductive Interval where
  | ms100 | ms250 | ms500 | ms1000
deriving DecidableEq, Repr

/-- The four operator buttons (R30). -/
inductive Button where
  | ack | restore | silence | test
deriving DecidableEq, Repr

/-- The contents of a REPORT, and of a local delivery (R15, R105). -/
structure PointReport where
  point : PointNo
  state : SeqState
  revision : Revision
  group : GroupNo
  foEligible : Bool
  audible : Bool
deriving DecidableEq, Repr

/-- One record of a DUMP (R16, R108). -/
structure DumpRecord where
  point : PointNo
  state : EntryState
  revision : Revision
  group : GroupNo
  foEligible : Bool
  audible : Bool
  fo : Bool
deriving DecidableEq, Repr

/-- One item of an OPERATOR frame: a point and the revision the panel held (R60). -/
structure Item where
  point : PointNo
  revision : Revision
deriving DecidableEq, Repr

/-- The contents of an OPERATOR frame (R106). -/
structure OperatorBody where
  target : StationNo
  action : Action
  items : List Item
deriving DecidableEq, Repr

/-- The contents of a DUMP (R108). -/
structure DumpBody where
  restartCount : Byte
  records : List DumpRecord
deriving DecidableEq, Repr

/-- The contents of a JOIN (R109). -/
structure JoinBody where
  restartCount : Byte
  cause : JoinCause
  interval : Interval
deriving DecidableEq, Repr

/-- The contents of a PRESENCE (R110). -/
structure PresenceBody where
  restartCount : Byte
  interval : Interval
  digestCount : Fin 18
  digestSum : BitVec 16
  phase : Phase
deriving DecidableEq, Repr

/-- The contents of a frame, one constructor for each of the seven kinds (R104). -/
inductive Payload where
  | report (body : PointReport)
  | operator (body : OperatorBody)
  | resyncRequest (owners : List StationNo)
  | dump (body : DumpBody)
  | join (body : JoinBody)
  | presence (body : PresenceBody)
  | leave (cause : LeaveCause)
deriving DecidableEq, Repr

/-- A frame of the link: its source station and its contents; the class and the kind follow from the contents (R104). -/
structure Frame where
  source : StationNo
  payload : Payload
deriving DecidableEq, Repr

/-- One byte of a frame as a receiver sensed it: its eight data bits, and whether its stop bit was sensed recessive (R102). -/
structure ReceivedByte where
  value : Byte
  stopOk : Bool
deriving DecidableEq, Repr

/-- What follows the kind byte of a service request: the payload, whose length the request declares, and the check byte (R115). -/
structure RequestBody where
  payload : List Byte
  check : Byte
deriving DecidableEq, Repr

/-- The commands, in the order of spec/opcode_table.json. -/
inductive Instr where
  /-- POWER_ON: the supply rises from below the power-on level (R169). -/
  | powerOn
  /-- RESET_PIN: NRST is driven low (R169). -/
  | resetPin
  /-- SUPPLY_LOW: the supply falls below the reset level (R169). -/
  | supplyLow
  /-- LEAVE_RESET: NRST is high and the supply above the release level; `straps` is what SA0 to SA5 read (R169, R170). -/
  | leaveReset (straps : BitVec 6)
  /-- SETUP_WINDOW_EXPIRY: the 3000 ms setup window runs out (R174). -/
  | setupWindowExpiry
  /-- STORE_WRITE_COMPLETE: the store write of an accepted SETUP completes (R173). -/
  | storeWriteComplete
  /-- SUPPLY_WARNING: the supply falls below the warning level (R177). -/
  | supplyWarning
  /-- SUPPLY_RELEASE: the supply rises above the release level (R177). -/
  | supplyRelease
  /-- INPUT_LEVEL_CHANGE: the pin of an input goes to the level given, `true` for high (R21, R22). -/
  | inputLevelChange (input : LineNo) (high : Bool)
  /-- QUALIFICATION_TIMER_EXPIRY: an input's qualification timer runs out (R22). -/
  | qualificationTimerExpiry (input : LineNo)
  /-- BUTTON_LEVEL_CHANGE: the pin of a button goes to the level given, `true` for high (R30). -/
  | buttonLevelChange (button : Button) (high : Bool)
  /-- BUTTON_QUALIFICATION_EXPIRY: a button's 20 ms timer runs out (R30). -/
  | buttonQualificationExpiry (button : Button)
  /-- LISTEN_WINDOW_EXPIRY (R129). -/
  | listenWindowExpiry
  /-- JOIN_WINDOW_EXPIRY (R133). -/
  | joinWindowExpiry
  /-- ISOLATION_HOLD_EXPIRY (R181). -/
  | isolationHoldExpiry
  /-- PRESENCE_TIMER_EXPIRY (R135). -/
  | presenceTimerExpiry
  /-- SILENCE_TIMER_EXPIRY: the silence timer of a station's roster entry runs out (R122). -/
  | silenceTimerExpiry (station : StationNo)
  /-- REPAIR_TIMER_EXPIRY: an owner's repair timer runs out (R145). -/
  | repairTimerExpiry (owner : StationNo)
  /-- CADENCE_TICK: one millisecond passes (R152). -/
  | cadenceTick
  /-- OUTPUT_SENSE_CHANGE: the sense line of an output goes to the level given, `true` for high (R162). -/
  | outputSenseChange (output : LineNo) (high : Bool)
  /-- MISMATCH_TIMER_EXPIRY: an output's mismatch timer reaches 200 ms (R162). -/
  | mismatchTimerExpiry (output : LineNo)
  /-- AGREEMENT_TIMER_EXPIRY: an output's agreement timer has accumulated 200 ms (R163). -/
  | agreementTimerExpiry (output : LineNo)
  /-- ATTEMPT_START: after a full interframe gap the station starts sending (R87). -/
  | attemptStart
  /-- ARB_LOST: the sender senses dominant where it sent recessive in its key (R80). -/
  | arbLost
  /-- COLLIDED: the sender senses a different level after its key (R81). -/
  | collided
  /-- FRAME_RECEIVED_CORRUPT: the bytes of a frame as this receiver sensed them, up to where it found the frame's end (R83, R102). -/
  | frameReceivedCorrupt (bytes : List ReceivedByte)
  /-- OBJECTED: the objection slot is dominant (R84). -/
  | objected
  /-- REPORT_DELIVERED (R39). -/
  | reportDelivered (source : StationNo) (body : PointReport)
  /-- OPERATOR_DELIVERED (R70). -/
  | operatorDelivered (source : StationNo) (body : OperatorBody)
  /-- RESYNC_REQUEST_DELIVERED (R143). -/
  | resyncRequestDelivered (source : StationNo) (owners : List StationNo)
  /-- DUMP_DELIVERED (R43). -/
  | dumpDelivered (source : StationNo) (body : DumpBody)
  /-- JOIN_DELIVERED (R127). -/
  | joinDelivered (source : StationNo) (body : JoinBody)
  /-- PRESENCE_DELIVERED (R126). -/
  | presenceDelivered (source : StationNo) (body : PresenceBody)
  /-- LEAVE_DELIVERED (R128). -/
  | leaveDelivered (source : StationNo) (cause : LeaveCause)
  /-- SERVICE_BYTE_RECEIVED: a byte arrives on SRX (R183). -/
  | serviceByteReceived (byte : Byte)
  /-- SERVICE_GAP_TIMER_EXPIRY: the 100 ms gap timer runs out (R183). -/
  | serviceGapTimerExpiry
  /-- SERVICE_FRAMING_FAULT: a byte with a bad stop bit arrives on SRX (R183). -/
  | serviceFramingFault
  /-- RESPONSE_COMPLETE: the last byte of the response in progress has been sent (R186). -/
  | responseComplete
  /-- STATUS: a whole request of kind 1 arrives (R185). -/
  | status (body : RequestBody)
  /-- READ_TABLE: a whole request of kind 2 arrives (R185). -/
  | readTable (body : RequestBody)
  /-- READ_ROSTER: a whole request of kind 3 arrives (R185). -/
  | readRoster (body : RequestBody)
  /-- READ_POINTS: a whole request of kind 4 arrives (R185). -/
  | readPoints (body : RequestBody)
  /-- READ_SETUP: a whole request of kind 5 arrives (R185). -/
  | readSetup (body : RequestBody)
  /-- SETUP: a whole request of kind 6 arrives (R171). -/
  | setup (body : RequestBody)
  /-- INTERFRAME_GAP_SENSED: the medium has been recessive for one full interframe gap since the controller's start (R77). -/
  | interframeGapSensed
  /-- UNKNOWN_REQUEST_KIND: a whole request of a kind that is 0 or above 6 arrives (R184). -/
  | unknownRequestKind (kind : Byte) (body : RequestBody)
deriving DecidableEq, Repr

end Sys2Proof
end

