-- ==== Sys2Proof/Config.lean ====
section
/-! DEFINITION. The free values: what the spec leaves open, as constants without a body. Each is applied to `State.draws`, a
counter the step advances, so that every use has a value of its own. -/

namespace Sys2Proof

/-- Where, among the Roster's acts on one PRESENCE, the Repair Unit compares its digest (R141: "either may be taken before the
comparison"). -/
inductive ComparePlace where
  | beforeRevival
  | afterRevival
  | afterRestart
deriving DecidableEq, Repr, Inhabited

/-- The orders one command may take its acts in, where the spec leaves the order open. -/
structure Orders where
  /-- R141: when the digest of a PRESENCE is compared. -/
  compare : ComparePlace
  /-- R144, R114: whether the Repair Unit takes a DUMP before the Alarm Table does. -/
  repairFirst : Bool
  /-- R13, R17, R18: whether point 16 takes a change of the OR of the causes at once, or after the rest of the command. -/
  healthFirst : Bool
deriving DecidableEq, Repr, Inhabited

/-- The order taken by the command drawn as number `n`. A free value (log 8, log 9). -/
opaque Config.orders : Nat → Orders

/-- Whether byte `i` of the store image is the new one after the reset drawn as number `n` interrupted the write (R173: "some
mixture of old and new bytes"). A free value (log 7). -/
opaque Config.storeByteNew : Nat → Fin 96 → Bool

end Sys2Proof
end

