-- ==== Sys2Proof/Machine/State.lean ====
section
/-! DEFINITION. The state of one ZA16, block by block (00_scope.md section 3), as plain data, and the state after reset. -/

namespace Sys2Proof.Machine

/-! ### Station Control (R166) -/

/-- The eleven station states (R166, R167). -/
inductive StationState where
  | starting | setupWait | storing | listening | joining | running | departing | departed | isolated | halted | unconfigured
deriving DecidableEq, Repr

/-- Why a start ended in UNCONFIGURED (R166, R174). -/
inductive Reason where
  | none | storeBlank | storeCorrupt | strapInvalid
deriving DecidableEq, Repr

/-- The reset cause (R169). -/
inductive ResetCause where
  | powerOn | resetPin | supplyLow
deriving DecidableEq, Repr

/-- The status of the setup store (R166). -/
inductive StoreStatus where
  | blank | valid | corrupt
deriving DecidableEq, Repr

/-- The supply monitor state (R177). -/
inductive Supply where
  | normal | low
deriving DecidableEq, Repr

/-- A setup image: 96 bytes (R117). -/
abbrev Image := Vector Byte 96

/-- Station Control's state (R166) and what happened since the part last left reset (R169). -/
structure StationControl where
  station : StationState
  number : BitVec 6
  reason : Reason
  resetCause : ResetCause
  restartCount : Byte
  storeImage : Image
  storeStatus : StoreStatus
  loaded : Option Image
  setupAccepted : Bool
  setupWindow : Timer
  storeWrite : Option Image
  joinCause : Option JoinCause
  isolationHold : Timer
  supply : Supply
  inReset : Bool
  powerLost : Bool
  supplyFell : Bool
deriving DecidableEq, Repr

/-! ### Sequence Engine (R1) -/

/-- A point's or an input's sensitivity (R1, R20). -/
inductive Sensitivity where
  | maintained | momentary
deriving DecidableEq, Repr

/-- One point record (R1). The report mark is kept in the REPORT lane and computed from it (log 15). -/
structure PointRecord where
  enabled : Bool
  group : GroupNo
  sensitivity : Sensitivity
  state : SeqState
  revision : Revision
deriving DecidableEq, Repr

/-- The Sequence Engine's state: the point table, ITEMS_REFUSED, and the OR of the causes that the health cause monitor last
took (R1, R8, R17). -/
structure SequenceEngine where
  points : Vector PointRecord 17
  itemsRefused : Counter
  healthLevel : Bool
deriving DecidableEq, Repr

/-! ### Point Monitor (R20, R30) -/

/-- An input's polarity (R21). -/
inductive Polarity where
  | assertHigh | assertLow
deriving DecidableEq, Repr

/-- A qualification time: 10, 50, 200 or 1000 ms (R20). -/
inductive QualTime where
  | ms10 | ms50 | ms200 | ms1000
deriving DecidableEq, Repr

/-- One input record (R20); `qualified` is true for asserted. -/
structure InputRecord where
  enabled : Bool
  polarity : Polarity
  sensitivity : Sensitivity
  time : QualTime
  qualified : Bool
  rearm : Bool
  timer : Timer
deriving DecidableEq, Repr

/-- One button record (R30). -/
structure ButtonRecord where
  pressed : Bool
  timer : Timer
deriving DecidableEq, Repr

/-- The four button records (R30). -/
structure ButtonRecords where
  ack : ButtonRecord
  restore : ButtonRecord
  silence : ButtonRecord
  test : ButtonRecord
deriving DecidableEq, Repr

/-- The Point Monitor's state (R20, R30). -/
structure PointMonitor where
  inputs : Vector InputRecord 16
  buttons : ButtonRecords
deriving DecidableEq, Repr

/-! ### Alarm Table (R33, R51) -/

/-- A condition: an owner and one of its points. -/
structure Condition where
  owner : StationNo
  point : PointNo
deriving DecidableEq, Repr

/-- One table entry (R33). Its state cannot be NORMAL, as R34 asks. -/
structure Entry where
  owner : StationNo
  point : PointNo
  group : GroupNo
  state : EntryState
  revision : Revision
  foEligible : Bool
  audible : Bool
  stale : Bool
deriving DecidableEq, Repr

/-- The Alarm Table (R33, R51, R54): the entries in delivery order, the first-out slots, OVERFLOW, TABLE_OVERFLOW and
TABLE_DROPPED. -/
structure AlarmTable where
  entries : List Entry
  slots : Vector (Option Condition) 8
  overflow : Bool
  tableOverflow : Bool
  dropped : Counter
deriving DecidableEq, Repr

/-! ### Annunciation Unit (R59, R151, R152, R158, R162) -/

/-- What an output shows (R151). -/
inductive Source where
  | none
  | condition (owner : StationNo) (point : PointNo)
  | group (group : GroupNo)
  | horn
  | stationLost
  | linkFault
  | overflow
  | health
deriving DecidableEq, Repr

/-- One output record (R151). -/
structure OutputRecord where
  source : Source
  activeLow : Bool
deriving DecidableEq, Repr

/-- One read-back record (R162); `fault` is the level, active or not, at which the output is faulted. -/
structure ReadBack where
  fault : Option Bool
  mismatch : Timer
  agreement : AgreementTimer
deriving DecidableEq, Repr

/-- The Annunciation Unit's state; bit g of `scope` says that group g is in the operator scope. -/
structure Annunciation where
  scope : BitVec 8
  test : Bool
  horn : Bool
  operatorDropped : Counter
  phase : Phase
  outputs : Vector OutputRecord 16
  readback : Vector ReadBack 16
deriving DecidableEq, Repr

/-! ### Link Controller (R77, R87, R90, R92 to R97) -/

/-- One mark of the REPORT lane (R94), with the attempt number and the failed attempts of R87. -/
structure ReportMark where
  point : PointNo
  again : Bool
  attempt : Nat
  failed : Nat
deriving DecidableEq, Repr

/-- One entry of the OPERATOR lane (R65, R95). -/
structure OperatorEntry where
  target : StationNo
  action : Action
  items : List Item
  inTransmission : Bool
  attempt : Nat
  failed : Nat
deriving DecidableEq, Repr

/-- What an element of the REPAIR lane stands for (R96). -/
inductive RepairWork where
  | dump (again : Bool)
  | request (owners : List StationNo)
deriving DecidableEq, Repr

/-- One element of the REPAIR lane (R96). -/
structure RepairEntry where
  work : RepairWork
  attempt : Nat
  failed : Nat
deriving DecidableEq, Repr

/-- What the ROLL slot can hold (R97). -/
inductive RollKind where
  | join | presence | leave
deriving DecidableEq, Repr

/-- The frame in the ROLL slot (R97). -/
structure RollFrame where
  kind : RollKind
  attempt : Nat
  failed : Nat
deriving DecidableEq, Repr

/-- The four lanes, by class (R93). -/
inductive Lane where
  | report | operator | repair | roll
deriving DecidableEq, Repr

/-- The transmit lanes (section 5.6). -/
structure Lanes where
  report : List ReportMark
  operator : List OperatorEntry
  repair : List RepairEntry
  roll : Option RollFrame
  leaveOwed : Bool
deriving DecidableEq, Repr

/-- A frame of this station on the medium: the lane whose head it is, and its contents as built at the attempt's start (R87). -/
structure Attempt where
  lane : Lane
  frame : Frame
deriving DecidableEq, Repr

/-- The Link Controller's state. -/
structure LinkController where
  lanes : Lanes
  sending : Option Attempt
  lanesOpen : Bool
  undeliveredRun : Nat
  degraded : Bool
  gapSensed : Bool
  objecting : Bool
  delivered : Counter
  objected : Counter
  collided : Counter
  arbLost : Counter
  undelivered : Counter
  receivedGood : Counter
  receivedBad : Counter
deriving DecidableEq, Repr

/-! ### Roster (R118) -/

/-- The state of a roster entry (R118). -/
inductive Membership where
  | absent | present | lost | left | self
deriving DecidableEq, Repr

/-- One roster entry (R118). -/
structure RosterEntry where
  state : Membership
  restartCount : Option Byte
  joinCause : Option JoinCause
  interval : Interval
  silence : Timer
deriving DecidableEq, Repr

/-- The Roster's state (R118, R120, R129, R132, R135). -/
structure Roster where
  entries : Vector RosterEntry 48
  lossWindow : Nat
  listenWindow : Timer
  joinWindow : Timer
  presence : Timer
  awaited : List StationNo
deriving DecidableEq, Repr

/-! ### Repair Unit (R138) -/

/-- The repair state of one owner (R138). -/
inductive RepairState where
  | none | requested | failed
deriving DecidableEq, Repr

/-- One repair record (R138). -/
structure RepairRecord where
  state : RepairState
  attempts : Nat
  timer : Timer
deriving DecidableEq, Repr

/-! ### Service Port (R182) -/

/-- The receive buffer of a request being assembled (R182, R183): `count` bytes received, whose sum is `sum`. -/
structure RxBuffer where
  kind : Byte
  lengthHigh : Byte
  lengthLow : Byte
  kept : List Byte
  sum : Byte
  count : Nat
deriving DecidableEq, Repr

/-- The Service Port's state (R182). `rx` is none in IDLE; `response` holds the bytes of the response in progress (log 6). -/
structure ServicePort where
  rx : Option RxBuffer
  gap : Timer
  response : Option (List Byte)
  answerOwed : Bool
  errors : Counter
deriving DecidableEq, Repr

/-! ### Pins -/

/-- The levels of the four button pins, true for high (R30). -/
structure ButtonPins where
  ack : Bool
  restore : Bool
  silence : Bool
  test : Bool
deriving DecidableEq, Repr

/-- The levels the block senses, true for high: the input pins, the button pins, and the sense lines of the outputs. -/
structure Pins where
  inputs : Vector Bool 16
  buttons : ButtonPins
  sense : Vector Bool 16
deriving DecidableEq, Repr

/-! ### The whole -/

/-- The state of the block, with the queue of waiting commands `pending`, first in, first out. `draws` is the model's own counter
for the free values of Config (log 23). -/
structure State where
  control : StationControl
  engine : SequenceEngine
  monitor : PointMonitor
  table : AlarmTable
  ann : Annunciation
  link : LinkController
  roster : Roster
  repair : Vector RepairRecord 48
  service : ServicePort
  pins : Pins
  draws : Nat
  pending : List Instr
deriving DecidableEq, Repr

/-- What stops the machine: nothing does. The spec names no fault that halts the part (INVENTORY.md, Faults), so this closed type
has no constructor. -/
inductive Fault where
deriving DecidableEq, Repr

/-- Why a command has no meaning. -/
inductive Refusal where
  /-- Raised only by an arm of `exec` whose command has no meaning yet; safe. No arm raises it. -/
  | notModelled (mnemonic : String)
deriving DecidableEq, Repr

/-! ### Values after every reset, block by block -/

/-- A point record after reset (R1, R2): point 16 reads enabled yes, every other enabled no. -/
def PointRecord.atReset (p : PointNo) : PointRecord :=
  { enabled := p == 16, group := 0, sensitivity := .maintained, state := .normal, revision := 0#8 }

/-- The Sequence Engine after reset (R1, R8). -/
def SequenceEngine.atReset : SequenceEngine :=
  { points := Vector.ofFn PointRecord.atReset, itemsRefused := 0#16, healthLevel := false }

/-- An input record after reset (R20). -/
def InputRecord.atReset : InputRecord :=
  { enabled := false, polarity := .assertHigh, sensitivity := .maintained, time := .ms10, qualified := false, rearm := true,
    timer := .stopped }

/-- A button record after reset (R30). -/
def ButtonRecord.atReset : ButtonRecord := { pressed := false, timer := .stopped }

/-- The four button records after reset (R30). -/
def ButtonRecords.atReset : ButtonRecords :=
  { ack := .atReset, restore := .atReset, silence := .atReset, test := .atReset }

/-- The Point Monitor after reset (R20, R30). -/
def PointMonitor.atReset : PointMonitor :=
  { inputs := Vector.replicate 16 InputRecord.atReset, buttons := .atReset }

/-- The Alarm Table after reset (R33, R51). -/
def AlarmTable.atReset : AlarmTable :=
  { entries := [], slots := Vector.replicate 8 none, overflow := false, tableOverflow := false, dropped := 0#16 }

/-- An output record after reset (R151). -/
def OutputRecord.atReset : OutputRecord := { source := .none, activeLow := false }

/-- A read-back record after reset (R162). -/
def ReadBack.atReset : ReadBack := { fault := none, mismatch := .stopped, agreement := .stopped }

/-- The Annunciation Unit after reset (R59, R151, R152, R158, R162). -/
def Annunciation.atReset : Annunciation :=
  { scope := 0#8, test := false, horn := false, operatorDropped := 0#16, phase := 0,
    outputs := Vector.replicate 16 OutputRecord.atReset, readback := Vector.replicate 16 ReadBack.atReset }

/-- Empty lanes (R77). -/
def Lanes.empty : Lanes := { report := [], operator := [], repair := [], roll := none, leaveOwed := false }

/-- The Link Controller after reset (R77). -/
def LinkController.atReset : LinkController :=
  { lanes := .empty, sending := none, lanesOpen := false, undeliveredRun := 0, degraded := false, gapSensed := false,
    objecting := false, delivered := 0#16, objected := 0#16, collided := 0#16, arbLost := 0#16, undelivered := 0#16,
    receivedGood := 0#16, receivedBad := 0#16 }

/-- A roster entry after reset (R118). -/
def RosterEntry.atReset : RosterEntry :=
  { state := .absent, restartCount := none, joinCause := none, interval := .ms1000, silence := .stopped }

/-- The Roster after reset (R118, R120). -/
def Roster.atReset : Roster :=
  { entries := Vector.replicate 48 RosterEntry.atReset, lossWindow := 3, listenWindow := .stopped, joinWindow := .stopped,
    presence := .stopped, awaited := [] }

/-- A repair record after reset (R138). -/
def RepairRecord.atReset : RepairRecord := { state := .none, attempts := 0, timer := .stopped }

/-- The Service Port after reset (R182). -/
def ServicePort.atReset : ServicePort :=
  { rx := none, gap := .stopped, response := none, answerOwed := false, errors := 0#16 }

/-- Station Control of a new part at its first power-up (R166, R169): held in reset, the store BLANK with every byte FFh.
The number before the straps are read is DESIGN CHOICE 0 (log 11). -/
def StationControl.factory : StationControl :=
  { station := .starting, number := 0#6, reason := .none, resetCause := .powerOn, restartCount := 0#8,
    storeImage := Vector.replicate 96 0xFF#8, storeStatus := .blank, loaded := none, setupAccepted := false,
    setupWindow := .stopped, storeWrite := none, joinCause := none, isolationHold := .stopped, supply := .normal,
    inReset := true, powerLost := true, supplyFell := false }

/-- The pins at the first power-up: DESIGN CHOICE (log 10). The buttons have pull-ups (section 10.8). -/
def Pins.factory : Pins :=
  { inputs := Vector.replicate 16 false, buttons := { ack := true, restore := true, silence := true, test := true },
    sense := Vector.replicate 16 false }

/-- The machine right after reset: a new part held in reset at its first power-up (log 11), nothing waiting. -/
def State.reset : State :=
  { control := .factory, engine := .atReset, monitor := .atReset, table := .atReset, ann := .atReset, link := .atReset,
    roster := .atReset, repair := Vector.replicate 48 RepairRecord.atReset, service := .atReset, pins := .factory, draws := 0,
    pending := [] }

end Sys2Proof.Machine
end

