-- ==== Sys2Proof/Machine/Ops.lean ====
section
/-! DEFINITION. The plain operations on the state: one update per block, records of a table by number, timers, and the durations
the spec fixes. -/

namespace Sys2Proof

/-! ### Timers -/

/-- A timer started from zero. -/
def Timer.start (length : Nat) : Timer := .running length 0

/-- Whether a timer runs. -/
def Timer.isRunning : Timer → Bool
  | .stopped => false
  | .running _ _ => true

/-- One millisecond passes; the time elapsed does not pass the length, since an expiry command ends the timer (log 3). -/
def Timer.tick : Timer → Timer
  | .stopped => .stopped
  | .running length elapsed => .running length (min (elapsed + 1) length)

/-- Whether an agreement timer runs (R163). -/
def AgreementTimer.isRunning : AgreementTimer → Bool
  | .stopped => false
  | .running _ => true
  | .paused _ => false
  | .following _ => false

/-- One millisecond passes for an agreement timer: a paused one keeps its time, and a sense line that has not followed the driven
level within the millisecond is a mismatch that discards it (R163). -/
def AgreementTimer.tick : AgreementTimer → AgreementTimer
  | .stopped => .stopped
  | .running t => .running (min (t + 1) 200)
  | .paused t => .paused t
  | .following _ => .stopped

end Sys2Proof

namespace Sys2Proof.Machine

/-! ### One update per block -/

/-- Replace Station Control's state. -/
def State.withControl (s : State) (x : StationControl) : State := { s with control := x }

/-- Replace the Sequence Engine's state. -/
def State.withEngine (s : State) (x : SequenceEngine) : State := { s with engine := x }

/-- Replace the Point Monitor's state. -/
def State.withMonitor (s : State) (x : PointMonitor) : State := { s with monitor := x }

/-- Replace the Alarm Table. -/
def State.withTable (s : State) (x : AlarmTable) : State := { s with table := x }

/-- Replace the Annunciation Unit's state. -/
def State.withAnn (s : State) (x : Annunciation) : State := { s with ann := x }

/-- Replace the Link Controller's state. -/
def State.withLink (s : State) (x : LinkController) : State := { s with link := x }

/-- Replace the Roster's state. -/
def State.withRoster (s : State) (x : Roster) : State := { s with roster := x }

/-- Replace the repair records. -/
def State.withRepair (s : State) (x : Vector RepairRecord 48) : State := { s with repair := x }

/-- Replace the Service Port's state. -/
def State.withService (s : State) (x : ServicePort) : State := { s with service := x }

/-- Replace the pin levels. -/
def State.withPins (s : State) (x : Pins) : State := { s with pins := x }

/-- Advance the counter the free values of Config are applied to (log 23). -/
def State.drawn (s : State) : State := { s with draws := s.draws + 1 }

/-- Replace the lanes. -/
def State.withLanes (s : State) (l : Lanes) : State := s.withLink { s.link with lanes := l }

/-- Replace the station state alone. -/
def State.withStation (s : State) (st : StationState) : State := s.withControl { s.control with station := st }

/-! ### Records by number -/

/-- Change one record of a table. -/
def updateAt {α : Type} {n : Nat} (v : Vector α n) (i : Fin n) (f : α → α) : Vector α n := v.set i (f v[i])

/-- A point record (R1). -/
def State.point (s : State) (p : PointNo) : PointRecord := s.engine.points[p]

/-- Change a point record. -/
def State.setPoint (s : State) (p : PointNo) (r : PointRecord) : State :=
  s.withEngine { s.engine with points := s.engine.points.set p r }

/-- An input record (R20). -/
def State.input (s : State) (i : LineNo) : InputRecord := s.monitor.inputs[i]

/-- Change an input record. -/
def State.setInput (s : State) (i : LineNo) (r : InputRecord) : State :=
  s.withMonitor { s.monitor with inputs := s.monitor.inputs.set i r }

/-- One of the four button records (R30). -/
def ButtonRecords.get (b : ButtonRecords) : Button → ButtonRecord
  | .ack => b.ack
  | .restore => b.restore
  | .silence => b.silence
  | .test => b.test

/-- Change one of the four button records. -/
def ButtonRecords.put (b : ButtonRecords) (r : ButtonRecord) : Button → ButtonRecords
  | .ack => { b with ack := r }
  | .restore => { b with restore := r }
  | .silence => { b with silence := r }
  | .test => { b with test := r }

/-- Change a button record. -/
def State.setButton (s : State) (k : Button) (r : ButtonRecord) : State :=
  s.withMonitor { s.monitor with buttons := s.monitor.buttons.put r k }

/-- The level of one of the four button pins. -/
def ButtonPins.get (b : ButtonPins) : Button → Bool
  | .ack => b.ack
  | .restore => b.restore
  | .silence => b.silence
  | .test => b.test

/-- Set the level of one of the four button pins. -/
def ButtonPins.put (b : ButtonPins) (high : Bool) : Button → ButtonPins
  | .ack => { b with ack := high }
  | .restore => { b with restore := high }
  | .silence => { b with silence := high }
  | .test => { b with test := high }

/-- A roster entry (R118). -/
def State.member (s : State) (n : StationNo) : RosterEntry := s.roster.entries[n.index]

/-- Change a roster entry. -/
def State.setMember (s : State) (n : StationNo) (e : RosterEntry) : State :=
  s.withRoster { s.roster with entries := s.roster.entries.set n.index e }

/-- A repair record (R138). -/
def State.repairOf (s : State) (n : StationNo) : RepairRecord := s.repair[n.index]

/-- Change a repair record. -/
def State.setRepair (s : State) (n : StationNo) (r : RepairRecord) : State := s.withRepair (s.repair.set n.index r)

/-- Change a read-back record. -/
def State.setReadback (s : State) (k : LineNo) (r : ReadBack) : State :=
  s.withAnn { s.ann with readback := s.ann.readback.set k r }

/-! ### The durations of the spec, in ms -/

/-- The setup window (R171). -/
def setupWindowMs : Nat := 3000

/-- The isolation hold (R181). -/
def isolationHoldMs : Nat := 2000

/-- The join window (R131, R133). -/
def joinWindowMs : Nat := 2000

/-- The gap timer of the service port (R183). -/
def serviceGapMs : Nat := 100

/-- A button's qualification time (R30). -/
def buttonMs : Nat := 20

/-- The mismatch timer (R162). -/
def mismatchMs : Nat := 200

/-- The eighth failed attempt abandons a frame (R89). -/
def attemptLimit : Nat := 8

/-- The consecutive-undelivered count that isolates the station (R90). -/
def isolationLimit : Nat := 16

/-- The shared places of the Alarm Table (R34). -/
def sharedPlaces : Nat := 111

/-- The shared occupancy at which a removal clears OVERFLOW (R55). -/
def overflowClearsAt : Nat := 83

/-- The room of the OPERATOR lane (R65). -/
def operatorRoom : Nat := 12

/-- A presence interval in ms (R104). -/
def intervalMs : Interval → Nat
  | .ms100 => 100
  | .ms250 => 250
  | .ms500 => 500
  | .ms1000 => 1000

/-- A qualification time in ms (R20). -/
def qualMs : QualTime → Nat
  | .ms10 => 10
  | .ms50 => 50
  | .ms200 => 200
  | .ms1000 => 1000

end Sys2Proof.Machine
end

