-- ==== Sys2Proof/WellFormed.lean ====
section
/-! DEFINITION. Which commands the spec allows: the ranges of R105 to R111, R115 and R184 that the types of the operands do not
already enforce. -/

namespace Sys2Proof

/-- R106: the target is not the source, and there are 1 to 17 items. -/
def OperatorBody.wellFormed (source : StationNo) (b : OperatorBody) : Bool :=
  b.target != source && 1 ≤ b.items.length && b.items.length ≤ 17

/-- R107: 1 to 47 owners, none the source, none twice. -/
def ownersWellFormed (source : StationNo) (owners : List StationNo) : Bool :=
  1 ≤ owners.length && owners.length ≤ 47 && !owners.contains source && decide owners.Nodup

/-- R108: the points of successive records rise strictly. -/
def pointsRise : List DumpRecord → Bool
  | [] => true
  | [_] => true
  | a :: b :: rest => decide (a.point < b.point) && pointsRise (b :: rest)

/-- R108: at most 17 records, in strictly rising point order. -/
def DumpBody.wellFormed (b : DumpBody) : Bool := b.records.length ≤ 17 && pointsRise b.records

/-- Whether a frame breaks no range of R105 to R111. -/
def Frame.wellFormed (f : Frame) : Bool :=
  match f.payload with
  | .report _ => true
  | .operator b => b.wellFormed f.source
  | .resyncRequest owners => ownersWellFormed f.source owners
  | .dump b => b.wellFormed
  | .join _ => true
  | .presence _ => true
  | .leave _ => true

/-- R115: the declared payload length has two bytes. -/
def RequestBody.wellFormed (b : RequestBody) : Bool := b.payload.length ≤ 65535

/-- The check on a command's operands. -/
def Instr.wellFormed : Instr → Bool
  | .powerOn => true
  | .resetPin => true
  | .supplyLow => true
  | .leaveReset _ => true
  | .setupWindowExpiry => true
  | .storeWriteComplete => true
  | .supplyWarning => true
  | .supplyRelease => true
  | .inputLevelChange _ _ => true
  | .qualificationTimerExpiry _ => true
  | .buttonLevelChange _ _ => true
  | .buttonQualificationExpiry _ => true
  | .listenWindowExpiry => true
  | .joinWindowExpiry => true
  | .isolationHoldExpiry => true
  | .presenceTimerExpiry => true
  | .silenceTimerExpiry _ => true
  | .repairTimerExpiry _ => true
  | .cadenceTick => true
  | .outputSenseChange _ _ => true
  | .mismatchTimerExpiry _ => true
  | .agreementTimerExpiry _ => true
  | .attemptStart => true
  | .arbLost => true
  | .collided => true
  | .frameReceivedCorrupt bytes => bytes.length ≤ 260
  | .objected => true
  | .reportDelivered src b => Frame.wellFormed ⟨src, .report b⟩
  | .operatorDelivered src b => Frame.wellFormed ⟨src, .operator b⟩
  | .resyncRequestDelivered src owners => Frame.wellFormed ⟨src, .resyncRequest owners⟩
  | .dumpDelivered src b => Frame.wellFormed ⟨src, .dump b⟩
  | .joinDelivered src b => Frame.wellFormed ⟨src, .join b⟩
  | .presenceDelivered src b => Frame.wellFormed ⟨src, .presence b⟩
  | .leaveDelivered src c => Frame.wellFormed ⟨src, .leave c⟩
  | .serviceByteReceived _ => true
  | .serviceGapTimerExpiry => true
  | .serviceFramingFault => true
  | .responseComplete => true
  | .status b => b.wellFormed
  | .readTable b => b.wellFormed
  | .readRoster b => b.wellFormed
  | .readPoints b => b.wellFormed
  | .readSetup b => b.wellFormed
  | .setup b => b.wellFormed
  | .interframeGapSensed => true
  | .unknownRequestKind kind b => (kind == 0#8 || decide (6 < kind.toNat)) && b.wellFormed

end Sys2Proof
end

