-- ==== Sys2Proof/Machine/Operands.lean ====
section
/-! DEFINITION. The operand forms: codes, the layout of a link frame and its check value, a receiver's verdict, the fields of the
setup image and its validation, and the bytes of service messages (06_frames_and_formats.md, R172). -/

namespace Sys2Proof.Machine

/-! ### Sequence states and table states -/

/-- The table state of a sequence state; NORMAL has none (R33). -/
def entryState? : SeqState → Option EntryState
  | .normal => none
  | .alert => some .alert
  | .acked => some .acked
  | .unackCleared => some .unackCleared
  | .ringback => some .ringback

/-- The sequence state of a table state. -/
def seqOf : EntryState → SeqState
  | .alert => .alert
  | .acked => .acked
  | .unackCleared => .unackCleared
  | .ringback => .ringback

/-! ### Codes of R104 -/

/-- The state code. -/
def seqCode : SeqState → Byte
  | .normal => 0#8
  | .alert => 1#8
  | .acked => 2#8
  | .unackCleared => 3#8
  | .ringback => 4#8

/-- The state of a code, if it is one. -/
def seqOfCode? (b : Byte) : Option SeqState :=
  match b.toNat with
  | 0 => some .normal
  | 1 => some .alert
  | 2 => some .acked
  | 3 => some .unackCleared
  | 4 => some .ringback
  | _ => none

/-- The action code. -/
def actionCode : Action → Byte
  | .ack => 1#8
  | .restore => 2#8

/-- The action of a code, if it is one. -/
def actionOfCode? (b : Byte) : Option Action :=
  match b.toNat with
  | 1 => some .ack
  | 2 => some .restore
  | _ => none

/-- The join cause code. -/
def joinCauseCode : JoinCause → Byte
  | .powerOn => 0#8
  | .resetPin => 1#8
  | .supplyLow => 2#8
  | .isolation => 3#8
  | .supplyRecovered => 4#8

/-- The join cause of a code, if it is one. -/
def joinCauseOfCode? (b : Byte) : Option JoinCause :=
  match b.toNat with
  | 0 => some .powerOn
  | 1 => some .resetPin
  | 2 => some .supplyLow
  | 3 => some .isolation
  | 4 => some .supplyRecovered
  | _ => none

/-- The leave cause code. -/
def leaveCauseCode : LeaveCause → Byte
  | .supplyLow => 1#8

/-- The leave cause of a code, if it is one. -/
def leaveCauseOfCode? (b : Byte) : Option LeaveCause :=
  match b.toNat with
  | 1 => some .supplyLow
  | _ => none

/-- The interval code. -/
def intervalCode : Interval → Byte
  | .ms100 => 0#8
  | .ms250 => 1#8
  | .ms500 => 2#8
  | .ms1000 => 3#8

/-- The interval of a code, if it is one. -/
def intervalOfCode? (b : Byte) : Option Interval :=
  match b.toNat with
  | 0 => some .ms100
  | 1 => some .ms250
  | 2 => some .ms500
  | 3 => some .ms1000
  | _ => none

/-- The class of a frame (R104). -/
def frameClass : Payload → Nat
  | .report _ => 0
  | .operator _ => 1
  | .resyncRequest _ => 2
  | .dump _ => 2
  | .join _ => 3
  | .presence _ => 3
  | .leave _ => 3

/-- The kind code of a frame (R104). -/
def kindCode : Payload → Byte
  | .report _ => 1#8
  | .operator _ => 2#8
  | .resyncRequest _ => 3#8
  | .dump _ => 4#8
  | .join _ => 5#8
  | .presence _ => 6#8
  | .leave _ => 7#8

/-! ### The check value (R103) -/

/-- One bit through the check register: generator x^16 + x^12 + x^5 + 1. -/
def crcBit (reg : BitVec 16) (bit : Bool) : BitVec 16 :=
  if reg.msb ^^ bit then (reg <<< 1) ^^^ 0x1021#16 else reg <<< 1

/-- One byte through the check register, most significant bit first. -/
def crcByte (reg : BitVec 16) (b : Byte) : BitVec 16 :=
  [7, 6, 5, 4, 3, 2, 1, 0].foldl (fun r i => crcBit r (b.getLsbD i)) reg

/-- The check value of a run of bytes: the register preset to all ones, no inversion. -/
def crc16 (bytes : List Byte) : BitVec 16 := bytes.foldl crcByte 0xFFFF#16

/-- The high byte of a 16-bit number. -/
def highByte (w : BitVec 16) : Byte := (w >>> 8).setWidth 8

/-- The low byte of a 16-bit number. -/
def lowByte (w : BitVec 16) : Byte := w.setWidth 8

/-- A 16-bit number of two bytes, high byte first. -/
def word16 (hi lo : Byte) : BitVec 16 := hi ++ lo

/-! ### The frame layout (R104) -/

/-- A number below 256 as a byte. -/
def byteOf (n : Nat) : Byte := BitVec.ofNat 8 n

/-- The key byte: class in bits 7 and 6, source in bits 5 to 0. -/
def keyByte (f : Frame) : Byte := byteOf (frameClass f.payload * 64 + f.source.number)

/-- The options byte of a REPORT (and bits 4 to 0 of a DUMP record's). -/
def optionsByte (group : GroupNo) (foEligible audible fo : Bool) : Byte :=
  byteOf (group.val + (if foEligible then 8 else 0) + (if audible then 16 else 0) + (if fo then 32 else 0))

/-- The bytes of one OPERATOR item. -/
def itemBytes (i : Item) : List Byte := [byteOf i.point.val, i.revision]

/-- The bytes of one DUMP record. -/
def recordBytes (r : DumpRecord) : List Byte :=
  [byteOf r.point.val, seqCode (seqOf r.state), r.revision, optionsByte r.group r.foEligible r.audible r.fo]

/-- The payload bytes of a frame. -/
def payloadBytes : Payload → List Byte
  | .report r =>
    [byteOf r.point.val, seqCode r.state, r.revision, optionsByte r.group r.foEligible r.audible false]
  | .operator b =>
    [byteOf b.target.number, actionCode b.action, byteOf b.items.length] ++ b.items.flatMap itemBytes
  | .resyncRequest owners => byteOf owners.length :: owners.map (fun o => byteOf o.number)
  | .dump b => [b.restartCount, byteOf b.records.length] ++ b.records.flatMap recordBytes
  | .join b => [b.restartCount, joinCauseCode b.cause, intervalCode b.interval]
  | .presence b =>
    [b.restartCount, intervalCode b.interval, byteOf b.digestCount.val, highByte b.digestSum, lowByte b.digestSum,
      highByte (BitVec.ofNat 16 b.phase.val), lowByte (BitVec.ofNat 16 b.phase.val)]
  | .leave c => [leaveCauseCode c]

/-- The header and payload bytes: what the check value is computed over. -/
def checkedBytes (f : Frame) : List Byte :=
  [keyByte f, kindCode f.payload, byteOf (payloadBytes f.payload).length] ++ payloadBytes f.payload

/-- The bytes of a frame on the medium (R102, R104). -/
def frameBytes (f : Frame) : List Byte :=
  checkedBytes f ++ [highByte (crc16 (checkedBytes f)), lowByte (crc16 (checkedBytes f))]

/-! ### A receiver's verdict (R82, R112) -/

/-- A point number, if the byte is one. -/
def pointOf? (b : Byte) : Option PointNo := if h : b.toNat < 17 then some ⟨b.toNat, h⟩ else none

/-- The group in bits 2 to 0 of an options byte. -/
def groupBits (b : Byte) : GroupNo := ⟨b.toNat % 8, Nat.mod_lt _ (by decide)⟩

/-- The items of an OPERATOR frame. -/
def itemsOf? : List Byte → Option (List Item)
  | [] => some []
  | p :: rev :: rest =>
    match pointOf? p, itemsOf? rest with
    | some point, some items => some (⟨point, rev⟩ :: items)
    | _, _ => none
  | _ => none

/-- The owners of a RESYNC_REQUEST. -/
def ownersOf? : List Byte → Option (List StationNo)
  | [] => some []
  | b :: rest =>
    match StationNo.ofNat? b.toNat, ownersOf? rest with
    | some o, some os => some (o :: os)
    | _, _ => none

/-- One DUMP record. -/
def recordOf? (p st rev opt : Byte) : Option DumpRecord :=
  match pointOf? p, (seqOfCode? st).bind entryState? with
  | some point, some state =>
    if opt.toNat < 64 then
      some { point, state, revision := rev, group := groupBits opt, foEligible := opt.getLsbD 3, audible := opt.getLsbD 4,
             fo := opt.getLsbD 5 }
    else none
  | _, _ => none

/-- The records of a DUMP. -/
def recordsOf? : List Byte → Option (List DumpRecord)
  | [] => some []
  | p :: st :: rev :: opt :: rest =>
    match recordOf? p st rev opt, recordsOf? rest with
    | some r, some rs => some (r :: rs)
    | _, _ => none
  | _ => none

/-- The contents that the payload bytes of a kind give, if every field lies in its range. -/
def payloadOf? (kind : Nat) (bytes : List Byte) : Option Payload :=
  match kind, bytes with
  | 1, [p, st, rev, opt] =>
    match pointOf? p, seqOfCode? st with
    | some point, some state =>
      if opt.toNat < 32 then
        some (.report { point, state, revision := rev, group := groupBits opt, foEligible := opt.getLsbD 3,
                        audible := opt.getLsbD 4 })
      else none
    | _, _ => none
  | 2, target :: action :: n :: rest =>
    match StationNo.ofNat? target.toNat, actionOfCode? action, itemsOf? rest with
    | some t, some a, some items => if items.length = n.toNat then some (.operator ⟨t, a, items⟩) else none
    | _, _, _ => none
  | 3, n :: rest =>
    match ownersOf? rest with
    | some owners => if owners.length = n.toNat then some (.resyncRequest owners) else none
    | none => none
  | 4, count :: n :: rest =>
    match recordsOf? rest with
    | some records => if records.length = n.toNat then some (.dump ⟨count, records⟩) else none
    | none => none
  | 5, [count, cause, interval] =>
    match joinCauseOfCode? cause, intervalOfCode? interval with
    | some c, some i => some (.join ⟨count, c, i⟩)
    | _, _ => none
  | 6, [count, interval, digestCount, sumHi, sumLo, phaseHi, phaseLo] =>
    match intervalOfCode? interval with
    | some i =>
      if h : digestCount.toNat < 18 ∧ (word16 phaseHi phaseLo).toNat < 2000 then
        some (.presence ⟨count, i, ⟨digestCount.toNat, h.1⟩, word16 sumHi sumLo, ⟨(word16 phaseHi phaseLo).toNat, h.2⟩⟩)
      else none
    | none => none
  | 7, [cause] =>
    match leaveCauseOfCode? cause with
    | some c => some (.leave c)
    | none => none
  | _, _ => none

/-- The frame that a run of whole bytes is, if it is good: its length, its check value, its key, its kind and its fields. -/
def frameOf? (bytes : List Byte) : Option Frame :=
  match bytes with
  | key :: kind :: len :: rest =>
    if rest.length = len.toNat + 2 ∧
        rest.drop len.toNat = [highByte (crc16 (key :: kind :: len :: rest.take len.toNat)),
          lowByte (crc16 (key :: kind :: len :: rest.take len.toNat))] then
      match StationNo.ofNat? (key.toNat % 64), payloadOf? kind.toNat (rest.take len.toNat) with
      | some source, some payload =>
        if key.toNat / 64 = frameClass payload ∧ (⟨source, payload⟩ : Frame).wellFormed then some ⟨source, payload⟩ else none
      | _, _ => none
    else none
  | _ => none

/-- A receiver's verdict on the bytes it sensed, up to where it found the frame's end (R102, R112): the frame, or none for
corrupt. A frame cut short has fewer bytes than its length byte announces. -/
def judge (received : List ReceivedByte) : Option Frame :=
  if received.all (·.stopOk) then frameOf? (received.map (·.value)) else none

/-- The bytes of a frame as every station senses them on an undisturbed medium. -/
def onMedium (f : Frame) : List ReceivedByte := (frameBytes f).map (fun b => ⟨b, true⟩)

/-! ### The setup image (R117) -/

/-- A group's four options (R3). -/
structure GroupOptions where
  lockIn : Bool
  ringback : Bool
  firstOut : Bool
  audible : Bool
deriving DecidableEq, Repr

/-- The image of a list of 96 bytes. -/
def imageOf? (bytes : List Byte) : Option Image :=
  if h : bytes.length = 96 then some ⟨bytes.toArray, by simpa using h⟩ else none

/-- Group record g: byte 6 + g. -/
def imageGroup (img : Image) (g : GroupNo) : GroupOptions :=
  let b := img[6 + g.val]
  { lockIn := b.getLsbD 0, ringback := b.getLsbD 1, firstOut := b.getLsbD 2, audible := b.getLsbD 3 }

/-- The group a byte of 0 to 7 names. -/
def groupOf (b : Byte) : GroupNo := groupBits b

/-- The health group: byte 5. -/
def imageHealthGroup (img : Image) : GroupNo := groupOf img[5]

/-- The operator scope: byte 4. -/
def imageScope (img : Image) : BitVec 8 := img[4]

/-- The loss window L: 3 for SHORT, 8 for LONG (R117, R120). -/
def imageLossWindow (img : Image) : Nat := if img[3] = 0#8 then 3 else 8

/-- The presence interval: byte 2. -/
def imageInterval (img : Image) : Interval := (intervalOfCode? img[2]).getD .ms1000

/-- The whole milliseconds counted for a PRESENCE of 120 bit periods at the image's link rate (R110). -/
def imagePresenceMs (img : Image) : Nat := if img[1] = 0#8 then 1 else 0

/-- The first byte of point record n: byte 14 + 2n. -/
def imagePointByte (img : Image) (n : LineNo) : Byte := img[14 + 2 * n.val]

/-- The group of point record n: byte 15 + 2n. -/
def imagePointGroup (img : Image) (n : LineNo) : Byte := img[15 + 2 * n.val]

/-- The qualification time of a code in bits 4 and 3 (R20, R117). -/
def qualOf (b : Byte) : QualTime :=
  match b.toNat / 8 % 4 with
  | 0 => .ms10
  | 1 => .ms50
  | 2 => .ms200
  | _ => .ms1000

/-- Whether point record n is enabled. -/
def imageEnabled (img : Image) (n : LineNo) : Bool := (imagePointByte img n).getLsbD 0

/-- The polarity of point record n. -/
def imagePolarity (img : Image) (n : LineNo) : Polarity :=
  if (imagePointByte img n).getLsbD 1 then .assertLow else .assertHigh

/-- The sensitivity of point record n. -/
def imageSensitivity (img : Image) (n : LineNo) : Sensitivity :=
  if (imagePointByte img n).getLsbD 2 then .momentary else .maintained

/-- The source of an output record's three bytes; a fault that validation refuses reads NONE. -/
def sourceOf (kind first second : Byte) : Source :=
  match kind.toNat % 16 with
  | 1 =>
    match StationNo.ofNat? first.toNat, pointOf? second with
    | some o, some p => .condition o p
    | _, _ => .none
  | 2 => .group (groupOf first)
  | 3 => .horn
  | 4 => .stationLost
  | 5 => .linkFault
  | 6 => .overflow
  | 7 => .health
  | _ => .none

/-- Output record k: bytes 46 + 3k to 48 + 3k. -/
def imageOutput (img : Image) (k : LineNo) : OutputRecord :=
  { source := sourceOf img[46 + 3 * k.val] img[47 + 3 * k.val] img[48 + 3 * k.val],
    activeLow := (img[46 + 3 * k.val]).getLsbD 7 }

/-! ### Validation (R172) -/

/-- The reasons of an INVALID answer (R115). -/
inductive InvalidReason where
  | badFormat | badCheck | badRate | badInterval | momentaryNeedsLockin | badOutput | badGroup
deriving DecidableEq, Repr

/-- The reason code (R115). -/
def reasonCode : InvalidReason → Byte
  | .badFormat => 1#8
  | .badCheck => 2#8
  | .badRate => 3#8
  | .badInterval => 4#8
  | .momentaryNeedsLockin => 5#8
  | .badOutput => 6#8
  | .badGroup => 7#8

/-- R172 step 8: whether output record k is faulty. -/
def outputFaulty (img : Image) (k : LineNo) : Bool :=
  let b := (img[46 + 3 * k.val]).toNat
  let first := (img[47 + 3 * k.val]).toNat
  let second := (img[48 + 3 * k.val]).toNat
  decide (8 ≤ b % 16) || decide (b / 16 % 8 ≠ 0) ||
    match b % 16 with
    | 1 => first == 0 || decide (48 < first) || decide (16 < second)
    | 2 => decide (7 < first) || second != 0
    | _ => first != 0 || second != 0

/-- R172 step 9: an enabled MOMENTARY point record whose group record has lock-in clear. -/
def needsLockin (img : Image) (n : LineNo) : Bool :=
  imageEnabled img n && decide (imageSensitivity img n = .momentary) && !(imageGroup img (groupOf (imagePointGroup img n))).lockIn

/-- The check value an image carries: bytes 94 and 95. -/
def imageCheck (img : Image) : BitVec 16 := word16 img[94] img[95]

/-- The refusal an image meets, with its detail byte, in the order of R172 steps 2 to 9; none for a valid image. -/
def imageRefusal? (img : Image) : Option (InvalidReason × Byte) :=
  if crc16 (img.toList.take 94) ≠ imageCheck img then some (.badCheck, 0#8)
  else if img[0] ≠ 1#8 then some (.badFormat, 0#8)
  else if 2 < (img[1]).toNat then some (.badRate, 0#8)
  else if 3 < (img[2]).toNat then some (.badInterval, 0#8)
  else if 1 < (img[3]).toNat ∨ (List.finRange 8).any (fun g => decide (16 ≤ (img[6 + g.val]).toNat)) ∨
      (List.finRange 16).any (fun n => decide (32 ≤ (imagePointByte img n).toNat)) then some (.badFormat, 0#8)
  else if 7 < (img[5]).toNat ∨ (List.finRange 16).any (fun n => decide (7 < (imagePointGroup img n).toNat)) then
    some (.badGroup, 0#8)
  else
    match (List.finRange 16).find? (outputFaulty img) with
    | some k => some (.badOutput, byteOf k.val)
    | none =>
      match (List.finRange 16).find? (needsLockin img) with
      | some n => some (.momentaryNeedsLockin, byteOf n.val)
      | none => none

/-- Whether an image passes validation. -/
def imageValid (img : Image) : Bool := (imageRefusal? img).isNone

/-! ### Service messages (R115) -/

/-- The result codes. -/
inductive Result where
  | ok | badCheck | unknownRequest | busy | locked | alreadySet | invalid
deriving DecidableEq, Repr

/-- The code of a result. -/
def resultCode : Result → Byte
  | .ok => 0#8
  | .badCheck => 1#8
  | .unknownRequest => 2#8
  | .busy => 3#8
  | .locked => 4#8
  | .alreadySet => 5#8
  | .invalid => 6#8

/-- The sum of a run of bytes, modulo 256. -/
def byteSum (bytes : List Byte) : Byte := bytes.foldl (· + ·) 0#8

/-- The two bytes of a payload length, high byte first. -/
def lengthBytes (n : Nat) : List Byte := [highByte (BitVec.ofNat 16 n), lowByte (BitVec.ofNat 16 n)]

/-- The bytes of a request as they arrive on SRX. -/
def requestBytes (kind : Byte) (body : RequestBody) : List Byte :=
  kind :: (lengthBytes body.payload.length ++ body.payload ++ [body.check])

/-- The check byte that makes a request's sum 0 modulo 256. -/
def requestCheck (kind : Byte) (payload : List Byte) : Byte :=
  0#8 - byteSum (kind :: (lengthBytes payload.length ++ payload))

/-- The bytes of a response, its check byte last. -/
def responseBytes (kind : Byte) (result : Result) (payload : List Byte) : List Byte :=
  let body := [kind, resultCode result] ++ lengthBytes payload.length ++ payload
  body ++ [0#8 - byteSum body]

/-- The request kind codes (R115). -/
def statusKind : Byte := 1#8
/-- READ_TABLE. -/
def readTableKind : Byte := 2#8
/-- READ_ROSTER. -/
def readRosterKind : Byte := 3#8
/-- READ_POINTS. -/
def readPointsKind : Byte := 4#8
/-- READ_SETUP. -/
def readSetupKind : Byte := 5#8
/-- SETUP. -/
def setupKind : Byte := 6#8

end Sys2Proof.Machine
end

