-- ==== Sys2Proof/Machine/Flags.lean ====
section
/-! DEFINITION. The yes-or-no values the rules test and show: what each station state permits, the health causes, the report marks,
the cadence reference, and the patterns and levels of the outputs. All are functions of the state (log 15). -/

namespace Sys2Proof.Machine

/-! ### Station states -/

/-- The seven states of a station whose setup has taken effect: the Sequence Engine is active (R5), the Point Monitor (R28), the
Link Controller (R77), the Roster (R120), the Alarm Table (R35) and the outputs (R157) run in exactly these. -/
def StationState.active : StationState → Bool
  | .starting => false
  | .setupWait => false
  | .storing => false
  | .listening => true
  | .joining => true
  | .running => true
  | .departing => true
  | .departed => true
  | .isolated => true
  | .halted => true
  | .unconfigured => false

/-- Whether the blocks run: the part is out of reset and in one of the seven states. -/
def State.active (s : State) : Bool := !s.control.inReset && s.control.station.active

/-- R91: the states that drive objections. R100: the same four states find a duplicate. -/
def StationState.objects : StationState → Bool
  | .listening => true
  | .joining => true
  | .running => true
  | .departing => true
  | _ => false

/-- The states whose lanes are kept empty (R99). -/
def StationState.silent : StationState → Bool
  | .isolated => true
  | .departed => true
  | .halted => true
  | _ => false

/-- R12: whether a change is handed over by a REPORT mark. -/
def State.marks (s : State) : Bool :=
  match s.control.station with
  | .running => true
  | .departing => true
  | .joining => s.link.lanesOpen
  | _ => false

/-- R99: whether the lanes take requests. -/
def State.lanesTake (s : State) : Bool := s.active && !s.control.station.silent

/-- This station, if the straps gave a valid number (R170). -/
def State.me (s : State) : Option StationNo := StationNo.ofNat? s.control.number.toNat

/-- The options of a group in the loaded setup (R3). -/
def State.groupOptions (s : State) (g : GroupNo) : GroupOptions :=
  match s.control.loaded with
  | some img => imageGroup img g
  | none => { lockIn := false, ringback := false, firstOut := false, audible := false }

/-- The station's own presence interval (R119, R135). -/
def State.ownInterval (s : State) : Interval :=
  match s.control.loaded with
  | some img => imageInterval img
  | none => .ms1000

/-! ### Health causes (R17) -/

/-- LAMP_FAULT: some output is faulted (R164). -/
def State.lampFault (s : State) : Bool := s.ann.readback.toList.any (·.fault.isSome)

/-- REPAIR_FAILED: some repair record is FAILED (R138, R146). -/
def State.repairFailed (s : State) : Bool := s.repair.toList.any (fun r => r.state == .failed)

/-- The OR of the four causes (R17). -/
def State.anyCause (s : State) : Bool :=
  s.lampFault || s.table.tableOverflow || s.link.degraded || s.repairFailed

/-! ### Report marks (R1, R94) -/

/-- A point's report mark. -/
inductive MarkState where
  | none | pending | pendingAgain
deriving DecidableEq, Repr

/-- The report mark of a point: its place in the REPORT lane. -/
def State.reportMark (s : State) (p : PointNo) : MarkState :=
  match s.link.lanes.report.find? (fun m => m.point == p) with
  | none => .none
  | some m => if m.again then .pendingAgain else .pending

/-! ### The cadence reference (R136) -/

/-- Whether a station is a candidate: its roster entry is PRESENT, or it is this station in JOINING or RUNNING. -/
def State.cadenceCandidate (s : State) (n : StationNo) : Bool :=
  (s.member n).state == .present ||
    (s.me == some n && (s.control.station == .joining || s.control.station == .running))

/-- The cadence reference: the lowest-numbered candidate. -/
def State.cadenceReference (s : State) : Option StationNo := StationNo.all.find? s.cadenceCandidate

/-! ### Patterns (R153 to R156) -/

/-- The five patterns. -/
inductive Pattern where
  | foFlash | fast | slow | steady | off
deriving DecidableEq, Repr

/-- The rank of a pattern, 1 highest (R153). -/
def Pattern.rank : Pattern → Nat
  | .foFlash => 1
  | .fast => 2
  | .slow => 3
  | .steady => 4
  | .off => 5

/-- Whether a pattern is lit at a phase (R153). -/
def Pattern.litAt (p : Pattern) (phase : Nat) : Bool :=
  match p with
  | .foFlash => decide (phase < 125) || (decide (250 ≤ phase) && decide (phase < 375))
  | .fast => decide (phase % 500 < 250)
  | .slow => decide (phase < 1000)
  | .steady => true
  | .off => false

/-- The higher-ranked of two patterns. -/
def Pattern.higher (p q : Pattern) : Pattern := if p.rank ≤ q.rank then p else q

/-- The condition an entry records. -/
def Entry.condition (e : Entry) : Condition := ⟨e.owner, e.point⟩

/-- The pattern of an entry (R154). -/
def entryPattern (t : AlarmTable) (e : Entry) : Pattern :=
  match e.state with
  | .alert => if t.slots[e.group] = some e.condition then .foFlash else .fast
  | .unackCleared => if t.slots[e.group] = some e.condition then .foFlash else .fast
  | .acked => .steady
  | .ringback => .slow

/-- The entry of a condition, if the table holds one. -/
def AlarmTable.find (t : AlarmTable) (c : Condition) : Option Entry := t.entries.find? (fun e => e.condition == c)

/-- A CONDITION output's pattern (R155). -/
def conditionPattern (t : AlarmTable) (c : Condition) : Pattern :=
  match t.find c with
  | some e => entryPattern t e
  | none => .off

/-- A GROUP output's pattern: the highest-ranked of the group's entries (R155). -/
def groupPattern (t : AlarmTable) (g : GroupNo) : Pattern :=
  t.entries.foldl (fun p e => if e.group = g then p.higher (entryPattern t e) else p) .off

/-- A yes-or-no value's pattern (R156). -/
def flagPattern (yes : Bool) : Pattern := if yes then .steady else .off

/-- STATION_LOST: some roster entry is LOST or LEFT (R156). -/
def State.stationLost (s : State) : Bool := s.roster.entries.toList.any (fun e => e.state == .lost || e.state == .left)

/-- LINK_FAULT (R156). -/
def State.linkFault (s : State) : Bool :=
  s.control.station.silent || s.control.station == .departing || s.link.degraded

/-- AUD is driven active (R160). -/
def State.audActive (s : State) : Bool := s.ann.horn && !s.ann.test

/-- The pattern a source gives (R155, R156). -/
def State.sourcePattern (s : State) : Source → Pattern
  | .none => .off
  | .condition o p => conditionPattern s.table ⟨o, p⟩
  | .group g => groupPattern s.table g
  | .horn => flagPattern s.audActive
  | .stationLost => flagPattern s.stationLost
  | .linkFault => flagPattern s.linkFault
  | .overflow => flagPattern s.table.overflow
  | .health => flagPattern s.anyCause

/-- The pattern an output shows: STEADY on every output while TEST is held (R161). -/
def State.pattern (s : State) (k : LineNo) : Pattern :=
  if s.ann.test then .steady else s.sourcePattern (s.ann.outputs[k]).source

/-- Whether an output is driven active at the present phase (R153). -/
def State.drivenActive (s : State) (k : LineNo) : Bool := (s.pattern k).litAt s.ann.phase.val

/-- The level of an output pin, true for high; none while it is released (R157). -/
def State.outPin (s : State) (k : LineNo) : Option Bool :=
  if s.active then some (s.drivenActive k != (s.ann.outputs[k]).activeLow) else none

/-- The level of AUD, active high; none while it is released (R157, R160). -/
def State.audPin (s : State) : Option Bool := if s.active then some s.audActive else none

/-- What drives STX: nothing while it is released, the idle line level, or the bytes of a response one after another (R182, R186). -/
inductive LineDrive where
  | released
  | idle
  | sending (bytes : List Byte)
deriving DecidableEq, Repr

/-- The drive of STX: released in reset as every pin is (R169), at the idle level in STARTING and between responses, and otherwise
sending the response in progress (R182, R186). -/
def State.stxPin (s : State) : LineDrive :=
  if s.control.inReset then .released
  else if s.control.station = .starting then .idle
  else
    match s.service.response with
    | none => .idle
    | some bytes => .sending bytes

/-- What an output's sense line reads, as active or not, through its drive polarity (section 9.8). -/
def State.sensedActive (s : State) (k : LineNo) : Bool := s.pins.sense[k] != (s.ann.outputs[k]).activeLow

/-- Whether an output is compared (R162): a NONE output only while TEST is held. -/
def State.compared (s : State) (k : LineNo) : Bool :=
  s.active && (s.ann.test || (s.ann.outputs[k]).source != .none)

end Sys2Proof.Machine
end

