-- ==== Sys2Proof/Machine/Table.lean ====
section
/-! DEFINITION. The Alarm Table's changes (03_the_alarm_table.md), each whole, with the notices of R36. `me` is this station. -/

namespace Sys2Proof.Machine

/-- A notice to the Annunciation Unit (R36). -/
inductive Notice where
  | created (c : Condition) (state : EntryState) (revision : Revision)
  | updated (c : Condition) (stateBefore : EntryState) (revisionBefore : Revision) (state : EntryState) (revision : Revision)
  | removed (c : Condition) (state : EntryState) (revision : Revision)
  | staleChanged (c : Condition) (stale : Bool)
  | slotChanged (group : GroupNo) (holder : Option Condition)
deriving DecidableEq, Repr

/-- A change under way: the table and the notices so far, in the order the change made them. -/
structure Change where
  table : AlarmTable
  notices : List Notice
deriving DecidableEq, Repr

/-- Shared occupancy: the remote entries held (R34). -/
def occupancy (me : Option StationNo) (entries : List Entry) : Nat :=
  (entries.filter (fun e => some e.owner != me)).length

/-- The slots with every naming of a condition emptied. -/
def slotsWithout (slots : Vector (Option Condition) 8) (c : Condition) : Vector (Option Condition) 8 :=
  slots.map (fun h => if h = some c then none else h)

/-- The notices of the slots that name a condition and are emptied. -/
def emptiedNotices (slots : Vector (Option Condition) 8) (c : Condition) : List Notice :=
  (List.finRange 8).filterMap (fun g => if slots[g] = some c then some (.slotChanged g none) else none)

/-- Remove the entry of a condition, if held: its slot is emptied by the same change, and OVERFLOW and TABLE_OVERFLOW are cleared
when the removal leaves shared occupancy at 83 or less (R37, R44, R55). -/
def removeEntry (me : Option StationNo) (c : Condition) (ch : Change) : Change :=
  match ch.table.find c with
  | none => ch
  | some e =>
    let entries := ch.table.entries.filter (fun x => x.condition != c)
    let stays := decide (overflowClearsAt < occupancy me entries)
    { table :=
        { ch.table with
          entries := entries, slots := slotsWithout ch.table.slots c,
          overflow := ch.table.overflow && stays, tableOverflow := ch.table.tableOverflow && stays },
      notices := ch.notices ++ .removed c e.state e.revision :: emptiedNotices ch.table.slots c }

/-- An entry that takes a frame's values in place (R38). -/
def Entry.take (e : Entry) (r : PointReport) (st : EntryState) : Entry :=
  { e with state := st, revision := r.revision, group := r.group, foEligible := r.foEligible, audible := r.audible, stale := false }

/-- Rewrite a held entry in place, with its updated notice (R36, R38); a change of group empties a slot of the old group that names the
condition. -/
def rewriteEntry (e : Entry) (f : Entry → Entry) (ch : Change) : Change :=
  let c := e.condition
  let moved := decide ((f e).group ≠ e.group ∧ ch.table.slots[e.group] = some c)
  { table :=
      { ch.table with
        entries := ch.table.entries.map (fun x => if x.condition = c then f x else x),
        slots := if moved then ch.table.slots.set e.group none else ch.table.slots },
    notices := ch.notices ++ .updated c e.state e.revision (f e).state (f e).revision ::
      (if moved then [.slotChanged e.group none] else []) }

/-- Update a held entry in place (R38): nothing at the same state and revision, for a REPORT and for a record in a DUMP's first step
(R43). -/
def updateEntry (e : Entry) (r : PointReport) (st : EntryState) (ch : Change) : Change :=
  if e.state = st ∧ e.revision = r.revision then ch else rewriteEntry e (fun x => x.take r st) ch

/-- R54: a drop advances TABLE_DROPPED and sets OVERFLOW and TABLE_OVERFLOW; it gives no notice. -/
def dropEntry (ch : Change) : Change :=
  { ch with table := { ch.table with overflow := true, tableOverflow := true, dropped := ch.table.dropped.bump } }

/-- The entry that a frame creates (R39). -/
def newEntry (src : StationNo) (r : PointReport) (st : EntryState) : Entry :=
  { owner := src, point := r.point, group := r.group, state := st, revision := r.revision, foEligible := r.foEligible,
    audible := r.audible, stale := false }

/-- Create an entry at the tail, or drop it for want of a shared place (R39, R54). With `giveSlot` the entry takes its group's
slot where it is eligible and the slot is empty (R40). -/
def createEntry (me : Option StationNo) (giveSlot : Bool) (src : StationNo) (r : PointReport) (st : EntryState) (ch : Change) :
    Change :=
  if some src ≠ me ∧ sharedPlaces ≤ occupancy me ch.table.entries then dropEntry ch
  else
    let c : Condition := ⟨src, r.point⟩
    let takes := giveSlot && r.foEligible && decide (ch.table.slots[r.group] = none)
    { table :=
        { ch.table with
          entries := ch.table.entries ++ [newEntry src r st],
          slots := if takes then ch.table.slots.set r.group (some c) else ch.table.slots },
      notices := ch.notices ++ .created c st r.revision :: (if takes then [.slotChanged r.group (some c)] else []) }

/-- Apply a REPORT's contents from owner `src` (R37 to R40); without `giveSlot`, a local delivery's or a DUMP record's (R41, R43). -/
def applyContents (me : Option StationNo) (giveSlot : Bool) (src : StationNo) (r : PointReport) (ch : Change) : Change :=
  match entryState? r.state with
  | none => removeEntry me ⟨src, r.point⟩ ch
  | some st =>
    match ch.table.find ⟨src, r.point⟩ with
    | some e => updateEntry e r st ch
    | none => createEntry me giveSlot src r st ch

/-- A DUMP record's contents as a REPORT would carry them. -/
def dumpReport (r : DumpRecord) : PointReport :=
  { point := r.point, state := seqOf r.state, revision := r.revision, group := r.group, foEligible := r.foEligible,
    audible := r.audible }

/-- The conditions of an owner that the table holds, in list order. -/
def conditionsOf (src : StationNo) (entries : List Entry) : List Condition :=
  (entries.filter (fun e => e.owner == src)).map Entry.condition

/-- Remove the entries of a list of conditions, one after another. -/
def removeAll (me : Option StationNo) (cs : List Condition) (ch : Change) : Change :=
  cs.foldl (fun ch c => removeEntry me c ch) ch

/-- R43, the first step of a DUMP: each record as `updateEntry` or `createEntry` gives. -/
def dumpApply (me : Option StationNo) (src : StationNo) (records : List DumpRecord) (ch : Change) : Change :=
  records.foldl (fun ch r => applyContents me false src (dumpReport r) ch) ch

/-- R44, the second step: every entry of the source that the DUMP does not list is removed. -/
def dumpRemove (me : Option StationNo) (src : StationNo) (records : List DumpRecord) (ch : Change) : Change :=
  removeAll me ((conditionsOf src ch.table.entries).filter (fun c => !records.any (fun r => r.point == c.point))) ch

/-- An entry with the group and the options of a DUMP record. -/
def Entry.takeOptions (e : Entry) (r : DumpRecord) : Entry :=
  { e with group := r.group, foEligible := r.foEligible, audible := r.audible }

/-- The entry of one record, where it is held with another group or option, takes the record's. -/
def alignRecord (src : StationNo) (ch : Change) (r : DumpRecord) : Change :=
  match ch.table.find ⟨src, r.point⟩ with
  | some e => if e.takeOptions r = e then ch else rewriteEntry e (fun x => x.takeOptions r) ch
  | none => ch

/-- R46, R139: each listed entry comes to hold the owner's group and options, also where the first step left it as it was (R43). No step
of the spec names the moment: it comes before the slots are given, so that R45's slot is the one of the owner's group (log 24). -/
def dumpAlign (src : StationNo) (records : List DumpRecord) (ch : Change) : Change := records.foldl (alignRecord src) ch

/-- Give a slot to a condition, whatever it held; no notice where it already names it. -/
def giveSlotTo (g : GroupNo) (c : Condition) (ch : Change) : Change :=
  if ch.table.slots[g] = some c then ch
  else { table := { ch.table with slots := ch.table.slots.set g (some c) }, notices := ch.notices ++ [.slotChanged g (some c)] }

/-- R45, the third step: each record whose fo flag is set and whose entry is held takes the slot of the entry's group. -/
def dumpGive (src : StationNo) (records : List DumpRecord) (ch : Change) : Change :=
  records.foldl
    (fun ch r =>
      if r.fo then
        match ch.table.find ⟨src, r.point⟩ with
        | some e => giveSlotTo e.group ⟨src, r.point⟩ ch
        | none => ch
      else ch) ch

/-- Whether the DUMP lists a condition of its source with its fo flag clear. -/
def listedClear (src : StationNo) (records : List DumpRecord) (c : Condition) : Bool :=
  c.owner == src && records.any (fun r => r.point == c.point && !r.fo)

/-- R45, the fourth step: every slot naming a condition that the DUMP lists with its fo flag clear is emptied. -/
def dumpEmpty (src : StationNo) (records : List DumpRecord) (ch : Change) : Change :=
  { table := { ch.table with slots := ch.table.slots.map (fun h => if h.any (listedClear src records) then none else h) },
    notices := ch.notices ++
      (List.finRange 8).filterMap
        (fun g => if (ch.table.slots[g]).any (listedClear src records) then some (.slotChanged g none) else none) }

/-- Set the stale flag of every entry of an owner, with a notice for each entry whose flag changes (R46, R49, R50). -/
def setStale (stale : Bool) (src : StationNo) (ch : Change) : Change :=
  { table := { ch.table with entries := ch.table.entries.map (fun e => if e.owner = src then { e with stale := stale } else e) },
    notices := ch.notices ++
      (ch.table.entries.filter (fun e => e.owner == src && e.stale != stale)).map (fun e => .staleChanged e.condition stale) }

/-- A delivered DUMP: the five steps as one change (R43 to R46), with the correction of groups and options (R46, R139). -/
def applyDump (me : Option StationNo) (src : StationNo) (records : List DumpRecord) (ch : Change) : Change :=
  setStale false src
    (dumpEmpty src records (dumpGive src records (dumpAlign src records (dumpRemove me src records (dumpApply me src records ch)))))

/-- The slots naming a condition of an owner, emptied. -/
def emptySlotsOf (src : StationNo) (ch : Change) : Change :=
  { table := { ch.table with slots := ch.table.slots.map (fun h => if h.any (fun c => c.owner == src) then none else h) },
    notices := ch.notices ++
      (List.finRange 8).filterMap
        (fun g => if (ch.table.slots[g]).any (fun c => c.owner == src) then some (.slotChanged g none) else none) }

/-- Remove every entry of an owner and empty every slot naming one of its conditions (R47, R48). -/
def removeOwner (me : Option StationNo) (src : StationNo) (ch : Change) : Change :=
  emptySlotsOf src (removeAll me (conditionsOf src ch.table.entries) ch)

/-! ### The horn latch (R158, R159) -/

/-- Whether an entry calls for the horn: audible, in scope, and in ALERT or UNACK_CLEARED. -/
def callsHorn (scope : BitVec 8) (e : Entry) : Bool :=
  e.audible && scope.getLsbD e.group.val && (e.state == .alert || e.state == .unackCleared)

/-- R158: whether a notice tells of an entry that the change left newly calling for the horn. -/
def Notice.sounds (scope : BitVec 8) (t : AlarmTable) : Notice → Bool
  | .created c _ _ => (t.find c).any (callsHorn scope)
  | .updated c st rev st' rev' => (st != st' || rev != rev') && (t.find c).any (callsHorn scope)
  | .removed _ _ _ => false
  | .staleChanged _ _ => false
  | .slotChanged _ _ => false

/-- The horn latch after a change: set by a newly sounding entry (R158), then cleared where no held entry calls (R159). -/
def hornAfter (scope : BitVec 8) (horn : Bool) (ch : Change) : Bool :=
  (horn || ch.notices.any (Notice.sounds scope ch.table)) && ch.table.entries.any (callsHorn scope)

/-- R149: every REQUESTED record becomes NONE; FAILED records stay. -/
def suspendRepair (v : Vector RepairRecord 48) : Vector RepairRecord 48 :=
  v.map (fun r => if r.state = .requested then RepairRecord.atReset else r)

/-- The Alarm Table takes one change whole: the Annunciation Unit moves the horn latch from its notices, and at a setting of OVERFLOW
the Repair Unit suspends (R35, R36, R149, R158, R159). -/
def takeChange (f : Change → Change) (s : State) : State :=
  let ch := f ⟨s.table, []⟩
  let s1 := (s.withTable ch.table).withAnn { s.ann with horn := hornAfter s.ann.scope s.ann.horn ch }
  if ch.table.overflow && !s.table.overflow then s1.withRepair (suspendRepair s.repair) else s1

end Sys2Proof.Machine
end

