-- ==== Sys2Proof/Machine/Engine.lean ====
section
/-! DEFINITION. The Sequence Engine (01_points_and_the_alarm_sequence.md): the transition tables, the hand-over of a change, the
item check and the health cause monitor; with the requests to the REPORT and REPAIR lanes (R94, R96). -/

namespace Sys2Proof.Machine

/-! ### Transitions -/

/-- The field events (R5). -/
inductive FieldEvent where
  | assert | clear | capture
deriving DecidableEq, Repr

/-- The transition table of R6, with the point's group options; none for "no change" and for the cells that cannot occur. A capture
in UNACK_CLEARED is the re-capture of R7: a change that keeps the state. -/
def fieldMove (opt : GroupOptions) : SeqState → FieldEvent → Option SeqState
  | .normal, .assert => some .alert
  | .normal, .clear => none
  | .normal, .capture => some .unackCleared
  | .alert, .assert => none
  | .alert, .clear => some (if opt.lockIn then .unackCleared else .normal)
  | .alert, .capture => none
  | .acked, .assert => none
  | .acked, .clear => some (if opt.ringback then .ringback else .normal)
  | .acked, .capture => none
  | .unackCleared, .assert => some .alert
  | .unackCleared, .clear => none
  | .unackCleared, .capture => some .unackCleared
  | .ringback, .assert => some .alert
  | .ringback, .clear => none
  | .ringback, .capture => some .unackCleared

/-- The item table of R8 for a matching item; none for "refused". -/
def itemMove (opt : GroupOptions) : SeqState → Action → Option SeqState
  | .normal, _ => none
  | .alert, .ack => some .acked
  | .alert, .restore => none
  | .acked, _ => none
  | .unackCleared, .ack => some (if opt.ringback then .ringback else .normal)
  | .unackCleared, .restore => none
  | .ringback, .ack => none
  | .ringback, .restore => some .normal

/-! ### Contents and hand-over -/

/-- The contents a REPORT or a local delivery of a point carries (R15). -/
def State.contents (s : State) (p : PointNo) : PointReport :=
  let r := s.point p
  let opt := s.groupOptions r.group
  { point := p, state := r.state, revision := r.revision, group := r.group, foEligible := opt.firstOut, audible := opt.audible }

/-- Local delivery of a point from its current record (R12, R41): no first-out slot is given. -/
def localDeliver (p : PointNo) (s : State) : State :=
  match s.me with
  | some me => takeChange (applyContents s.me false me (s.contents p)) s
  | none => s

/-- Whether the head of a lane is on the medium. -/
def State.onAir (s : State) (lane : Lane) : Bool :=
  match s.link.sending with
  | some a => a.lane == lane
  | none => false

/-- A new mark at the tail (R94). -/
def freshMark (p : PointNo) : ReportMark := { point := p, again := false, attempt := 0, failed := 0 }

/-- The REPORT lane after a request for a mark (R94). `onAir` says that the head's attempt is on the medium. -/
def requestMark (onAir : Bool) (p : PointNo) (marks : List ReportMark) : List ReportMark :=
  if marks.any (fun m => m.point == p) then
    match marks with
    | m :: rest => if onAir ∧ m.point = p then { m with again := true } :: rest else m :: rest
    | [] => []
  else marks ++ [freshMark p]

/-- Ask the REPORT lane for a mark (R12, R94). -/
def requestReport (p : PointNo) (s : State) : State :=
  s.withLanes { s.link.lanes with report := requestMark (s.onAir .report) p s.link.lanes.report }

/-- The hand-over of a change, by the station state when it is taken (R12). -/
def handOver (p : PointNo) (s : State) : State := if s.marks then requestReport p s else localDeliver p s

/-- A change of a point: the state is replaced and the revision advances by one (R11), then the change is handed over (R12). -/
def changePoint (p : PointNo) (st : SeqState) (s : State) : State :=
  handOver p (s.setPoint p { s.point p with state := st, revision := (s.point p).revision + 1#8 })

/-! ### Events and items -/

/-- A field event reaches the engine (R5, R6, R7, R10). -/
def fieldEvent (p : PointNo) (ev : FieldEvent) (s : State) : State :=
  if s.active && (s.point p).enabled then
    match fieldMove (s.groupOptions (s.point p).group) (s.point p).state ev with
    | some st => changePoint p st s
    | none => s
  else s

/-- A refused item is counted in ITEMS_REFUSED (R8). -/
def refuseItem (s : State) : State := s.withEngine { s.engine with itemsRefused := s.engine.itemsRefused.bump }

/-- The move an item makes at the record as it stands: it matches when its revision is the record's (R8). -/
def State.itemMove? (s : State) (a : Action) (i : Item) : Option SeqState :=
  if (s.point i.point).revision = i.revision then
    itemMove (s.groupOptions (s.point i.point).group) (s.point i.point).state a
  else none

/-- An item is checked and taken, or refused (R8). -/
def takeItem (a : Action) (s : State) (i : Item) : State :=
  match s.itemMove? a i with
  | some st => changePoint i.point st s
  | none => refuseItem s

/-- A list of items, each taken whole in order (R9), by an active engine (R5). -/
def takeItems (a : Action) (items : List Item) (s : State) : State :=
  if s.active then items.foldl (takeItem a) s else s

/-- The health cause monitor takes the OR of the causes and raises the event of a change for point 16 (R17). -/
def healthSync (s : State) : State :=
  if s.active && s.anyCause != s.engine.healthLevel then
    fieldEvent 16 (if s.anyCause then .assert else .clear)
      (s.withEngine { s.engine with healthLevel := s.anyCause })
  else s

/-- The moment a cause may have changed within a command: the engine takes the event now, or after the rest of the command, in
either order (R17; log 9). Every command that can change a cause ends in `healthSync`. -/
def causeMoment (o : Orders) (s : State) : State := if o.healthFirst then healthSync s else s

/-! ### The digest (R19, R139) -/

/-- The share of one point in a digest sum: point × 256 + revision, modulo 65536. -/
def digestTerm (p : PointNo) (rev : Revision) : BitVec 16 := BitVec.ofNat 16 (p.val * 256 + rev.toNat)

/-- The points not in NORMAL, in ascending order. -/
def State.offNormal (s : State) : List PointNo := (List.finRange 17).filter (fun p => decide ((s.point p).state ≠ .normal))

/-- The own digest count (R19). -/
def State.digestCount (s : State) : Fin 18 :=
  ⟨s.offNormal.length, Nat.lt_succ_of_le (by
    simpa [State.offNormal] using
      List.length_filter_le (fun p => decide ((s.point p).state ≠ .normal)) (List.finRange 17))⟩

/-- The own digest sum (R19). -/
def State.digestSum (s : State) : BitVec 16 :=
  (s.offNormal.map (fun p => digestTerm p (s.point p).revision)).foldl (· + ·) 0#16

/-! ### The DUMP (R16) and requests to the REPAIR lane (R96) -/

/-- The DUMP record of a point not in NORMAL. -/
def State.dumpRecord? (s : State) (p : PointNo) : Option DumpRecord :=
  match entryState? (s.point p).state with
  | none => none
  | some st =>
    let c := s.contents p
    some { point := p, state := st, revision := c.revision, group := c.group, foEligible := c.foEligible, audible := c.audible,
           fo := s.me.any (fun me => decide (s.table.slots[c.group] = some ⟨me, p⟩)) }

/-- The DUMP's contents (R16). -/
def State.dumpBody (s : State) : DumpBody :=
  { restartCount := s.control.restartCount, records := (List.finRange 17).filterMap s.dumpRecord? }

/-- Whether an element of the REPAIR lane is the DUMP mark. -/
def RepairEntry.isDump (e : RepairEntry) : Bool :=
  match e.work with
  | .dump _ => true
  | .request _ => false

/-- The owners of a request entry. -/
def RepairEntry.owners (e : RepairEntry) : List StationNo :=
  match e.work with
  | .dump _ => []
  | .request os => os

/-- A new element at the tail. -/
def freshRepair (w : RepairWork) : RepairEntry := { work := w, attempt := 0, failed := 0 }

/-- The REPAIR lane after a request for the DUMP mark (R96). -/
def requestDumpMark (onAir : Bool) (lane : List RepairEntry) : List RepairEntry :=
  if lane.any RepairEntry.isDump then
    match lane with
    | e :: rest => if onAir ∧ e.isDump then { e with work := .dump true } :: rest else e :: rest
    | [] => []
  else lane ++ [freshRepair (.dump false)]

/-- Ask the REPAIR lane for the station's DUMP mark; discarded uncounted where the lanes are kept empty (R96, R99, R143). -/
def requestDump (s : State) : State :=
  if s.lanesTake then
    s.withLanes { s.link.lanes with repair := requestDumpMark (s.onAir .repair) s.link.lanes.repair }
  else s

/-- Append an owner to the first request entry of a list, unless that entry names it; none where the list has no request entry. -/
def appendOwner (o : StationNo) : List RepairEntry → Option (List RepairEntry)
  | [] => none
  | e :: rest =>
    match e.work with
    | .request os =>
      some ((if os.contains o then e else { e with work := .request (os ++ [o]) }) :: rest)
    | .dump _ => (appendOwner o rest).map (e :: ·)

/-- The REPAIR lane after a request for an owner (R96): the first request entry without an attempt on the medium takes it, else a
new entry where fewer than two are held. With `onAir` the head is on the medium and is passed over. -/
def requestOwnerIn (onAir : Bool) (o : StationNo) (lane : List RepairEntry) : List RepairEntry :=
  let onMedium := if onAir then lane.take 1 else []
  let waiting := if onAir then lane.drop 1 else lane
  match appendOwner o waiting with
  | some w => onMedium ++ w
  | none =>
    if (lane.filter (fun e => !e.isDump)).length < 2 then lane ++ [freshRepair (.request [o])] else lane

/-- Ask the REPAIR lane for an owner (R142). -/
def requestOwner (o : StationNo) (s : State) : State :=
  if s.lanesTake then
    s.withLanes { s.link.lanes with repair := requestOwnerIn (s.onAir .repair) o s.link.lanes.repair }
  else s

/-- Withdraw an owner from one element; a request whose list becomes empty leaves the lane (R142). -/
def withdrawFrom (o : StationNo) (e : RepairEntry) : Option RepairEntry :=
  match e.work with
  | .dump _ => some e
  | .request os =>
    if os.contains o then
      (if (os.filter (· != o)).isEmpty then none else some { e with work := .request (os.filter (· != o)) })
    else some e

/-- The REPAIR lane after the withdrawal of an owner: an element on the medium is left as it is (R142). -/
def withdrawIn (onAir : Bool) (o : StationNo) (lane : List RepairEntry) : List RepairEntry :=
  let onMedium := if onAir then lane.take 1 else []
  let waiting := if onAir then lane.drop 1 else lane
  onMedium ++ waiting.filterMap (withdrawFrom o)

/-- Withdraw an owner from the REPAIR lane (R142). -/
def withdrawOwner (o : StationNo) (s : State) : State :=
  s.withLanes { s.link.lanes with repair := withdrawIn (s.onAir .repair) o s.link.lanes.repair }

end Sys2Proof.Machine
end

