-- ==== Sys2Proof/Machine/Lamps.lean ====
section
/-! DEFINITION. The lamps: the read-back of the outputs, the end of a command, and the commands CADENCE_TICK, OUTPUT_SENSE_CHANGE,
MISMATCH_TIMER_EXPIRY and AGREEMENT_TIMER_EXPIRY (09_indicator_outputs_and_horn.md). -/

namespace Sys2Proof.Machine

/-! ### Guards -/

/-- An act of the running blocks: nothing happens while the part is in reset or its setup has not taken effect. -/
def whenActive (f : State → State) (s : State) : State := if s.active then f s else s

/-- An act of the part outside reset: while in reset the part takes no event (R169). -/
def whenAwake (f : State → State) (s : State) : State := if s.control.inReset then s else f s

/-! ### Read-back (R162, R163, R165) -/

/-- The agreement timer of an output in agreement at the level it is faulted at: it runs on from the time it kept (R163). -/
def resumeAgreement : AgreementTimer → AgreementTimer
  | .stopped => .running 0
  | .running t => .running t
  | .paused t => .running t
  | .following _ => .running 0

/-- The agreement timer of an output in agreement at the other level: it pauses, keeping its time (R163). -/
def pauseAgreement : AgreementTimer → AgreementTimer
  | .stopped => .paused 0
  | .running t => .paused t
  | .paused t => .paused t
  | .following _ => .paused 0

/-- The agreement timer of an output whose driven level differs from what is sensed: a timer that held time was in agreement until
the driven level moved, and keeps its time until the sense line follows or a millisecond passes (R163; log 13). -/
def holdAgreement : AgreementTimer → AgreementTimer
  | .stopped => .stopped
  | .running t => .following t
  | .paused t => .following t
  | .following t => .following t

/-- The agreement timer as the sense line itself moves: a move that follows the driven level keeps the time, and any other begins a
mismatch, which discards it (R163). -/
def senseAgreement : AgreementTimer → AgreementTimer
  | .stopped => .stopped
  | .running _ => .stopped
  | .paused _ => .stopped
  | .following t => .paused t

/-- A read-back record under the levels as they stand. An output that is not compared holds its fault with both timers stopped. -/
def settleRecord (compared driven sensed : Bool) (r : ReadBack) : ReadBack :=
  if compared then
    match r.fault with
    | none =>
      { fault := none, agreement := .stopped,
        mismatch := if driven = sensed then .stopped else if r.mismatch.isRunning then r.mismatch else Timer.start mismatchMs }
    | some level =>
      { fault := some level, mismatch := .stopped,
        agreement :=
          if driven = sensed then (if driven = level then resumeAgreement r.agreement else pauseAgreement r.agreement)
          else holdAgreement r.agreement }
  else { fault := r.fault, mismatch := .stopped, agreement := .stopped }

/-- The read-back of all outputs takes the driven and sensed levels as the command leaves them (log 13). -/
def settle (s : State) : State :=
  whenActive
    (fun s => s.withAnn
      { s.ann with
        readback := Vector.ofFn (fun k =>
          settleRecord (s.compared k) (s.drivenActive k) (s.sensedActive k) s.ann.readback[k]) }) s

/-- The end of a command that may change a cause or a driven level: the health cause monitor takes the OR of the causes (R17), then
the read-back settles. -/
def finish (s : State) : State := settle (healthSync s)

/-! ### CADENCE_TICK (R152) -/

/-- One millisecond at an input record. -/
def InputRecord.tick (r : InputRecord) : InputRecord := { r with timer := r.timer.tick }

/-- One millisecond at a button record. -/
def ButtonRecord.tick (r : ButtonRecord) : ButtonRecord := { r with timer := r.timer.tick }

/-- One millisecond at a read-back record. -/
def ReadBack.tick (r : ReadBack) : ReadBack := { r with mismatch := r.mismatch.tick, agreement := r.agreement.tick }

/-- One millisecond at every timer the part holds (log 4). -/
def tickTimers (s : State) : State :=
  { s with
    control :=
      { s.control with setupWindow := s.control.setupWindow.tick, isolationHold := s.control.isolationHold.tick },
    monitor :=
      { inputs := s.monitor.inputs.map InputRecord.tick,
        buttons :=
          { ack := s.monitor.buttons.ack.tick, restore := s.monitor.buttons.restore.tick,
            silence := s.monitor.buttons.silence.tick, test := s.monitor.buttons.test.tick } },
    ann := { s.ann with readback := s.ann.readback.map ReadBack.tick },
    roster :=
      { s.roster with
        entries := s.roster.entries.map (fun e => { e with silence := e.silence.tick }),
        listenWindow := s.roster.listenWindow.tick, joinWindow := s.roster.joinWindow.tick,
        presence := s.roster.presence.tick },
    repair := s.repair.map (fun r => { r with timer := r.timer.tick }),
    service := { s.service with gap := s.service.gap.tick } }

/-- The phase one millisecond on: from 1999 it passes to 0 (R152). -/
def nextPhase (p : Phase) : Phase := ⟨(p.val + 1) % 2000, Nat.mod_lt _ (by decide)⟩

/-- The cadence phase advances while the setup is in effect (R152). -/
def advancePhase (s : State) : State := whenActive (fun s => s.withAnn { s.ann with phase := nextPhase s.ann.phase }) s

/-- CADENCE_TICK. -/
def execCadenceTick (s : State) : Host.Outcome State Fault Refusal :=
  .next (whenAwake (fun s => settle (advancePhase (tickTimers s))) s)

/-! ### The sense lines and the read-back timers -/

/-- The sense line of an output at a level. -/
def setSensePin (k : LineNo) (high : Bool) (s : State) : State :=
  s.withPins { s.pins with sense := s.pins.sense.set k high }

/-- The read-back record of an output. -/
def State.readbackOf (s : State) (k : LineNo) : ReadBack := s.ann.readback[k]

/-- The agreement timer of an output takes a move of its sense line. -/
def senseMoved (k : LineNo) (s : State) : State :=
  s.setReadback k { s.readbackOf k with agreement := senseAgreement (s.readbackOf k).agreement }

/-- A sense line that changes moves its own agreement timer while read-back runs (R162, R163). -/
def senseChange (k : LineNo) (high : Bool) (s : State) : State :=
  if s.active && s.pins.sense[k] != high then senseMoved k (setSensePin k high s) else setSensePin k high s

/-- OUTPUT_SENSE_CHANGE. -/
def execOutputSenseChange (k : LineNo) (high : Bool) (s : State) : Host.Outcome State Fault Refusal :=
  .next (settle (senseChange k high s))

/-- R162: a mismatch timer that runs out faults the output at the level then driven. -/
def mismatchExpiry (k : LineNo) (s : State) : State :=
  if s.compared k ∧ (s.readbackOf k).fault = none ∧ (s.readbackOf k).mismatch.isRunning then
    s.setReadback k { fault := some (s.drivenActive k), mismatch := .stopped, agreement := .stopped }
  else s

/-- MISMATCH_TIMER_EXPIRY. -/
def execMismatchTimerExpiry (k : LineNo) (s : State) : Host.Outcome State Fault Refusal :=
  .next (whenActive (fun s => finish (mismatchExpiry k s)) s)

/-- R163: an agreement timer that has accumulated its time clears the fault. -/
def agreementExpiry (k : LineNo) (s : State) : State :=
  if (s.readbackOf k).fault.isSome ∧ (s.readbackOf k).agreement.isRunning then s.setReadback k ReadBack.atReset else s

/-- AGREEMENT_TIMER_EXPIRY. -/
def execAgreementTimerExpiry (k : LineNo) (s : State) : Host.Outcome State Fault Refusal :=
  .next (whenActive (fun s => finish (agreementExpiry k s)) s)

end Sys2Proof.Machine
end

