-- ==== Sys2Proof/Machine/Control.lean ====
section
/-! DEFINITION. The station state machine (R167): what leaving and entering each state does, with the supply monitor's state taken at
the entry (R178). -/

namespace Sys2Proof.Machine

/-! ### Leaving a state -/

/-- All repair records NONE (R138, R150). -/
def repairNone : Vector RepairRecord 48 := Vector.replicate 48 RepairRecord.atReset

/-- What leaving the present state does: RUNNING clears the repair records (R150), JOINING discards the awaited set and stops the
join window (R132, R133, R134), LISTENING stops the listen window (R129), ISOLATED stops the hold (R181). -/
def leaveState (s : State) : State :=
  match s.control.station with
  | .running => s.withRepair repairNone
  | .joining => s.withRoster { s.roster with awaited := [], joinWindow := .stopped }
  | .listening => s.withRoster { s.roster with listenWindow := .stopped }
  | .isolated => s.withControl { s.control with isolationHold := .stopped }
  | _ => s

/-! ### Emptying the lanes (R14, R69, R99) -/

/-- The lanes, the frame on the medium and the consecutive-undelivered count are discarded; OPERATOR_DROPPED counts each OPERATOR
entry (R69, R99). -/
def discardLanes (s : State) : State :=
  (s.withAnn { s.ann with operatorDropped := Counter.bumpBy s.link.lanes.operator.length s.ann.operatorDropped }).withLink
    { s.link with lanes := .empty, sending := none, undeliveredRun := 0 }

/-- R99: all four lanes are emptied at once, and each point whose mark is removed is handed over by local delivery in lane order
(R14). -/
def emptyLanes (s : State) : State :=
  s.link.lanes.report.foldl (fun t m => localDeliver m.point t) (discardLanes s)

/-- The presence timer stops (R135). -/
def stopPresence (s : State) : State := s.withRoster { s.roster with presence := .stopped }

/-! ### Entering a state -/

/-- Entry into a state that keeps its lanes empty: ISOLATED, DEPARTED or HALTED (R99, R135). The engine may take a health event of
the transition before or after the emptying (log 9). -/
def enterSilent (o : Orders) (st : StationState) (s : State) : State :=
  emptyLanes (causeMoment o (stopPresence ((leaveState s).withStation st)))

/-- Entry into HALTED (R100). -/
def enterHalted (o : Orders) (s : State) : State := enterSilent o .halted s

/-- The JOIN placed in the ROLL slot at an entry into JOINING (R97, R130). -/
def freshRoll (k : RollKind) : RollFrame := { kind := k, attempt := 0, failed := 0 }

/-- Entry into JOINING with its join cause: the JOIN is placed, the awaited set is empty, the join window and the presence timer are
stopped, and the lanes wait for the own JOIN's delivery (R92, R130). -/
def joinCore (c : JoinCause) (s : State) : State :=
  let s1 := leaveState s
  let s2 := s1.withControl { s1.control with station := .joining, joinCause := some c }
  let s3 := s2.withRoster { s2.roster with awaited := [], joinWindow := .stopped, presence := .stopped }
  s3.withLink
    { s3.link with lanesOpen := false, lanes := { s3.link.lanes with roll := some (freshRoll .join), leaveOwed := false } }

/-- Entry into JOINING; a LOW supply at that entry takes the station to DEPARTED before any JOIN is offered (R178). -/
def enterJoining (o : Orders) (c : JoinCause) (s : State) : State :=
  let s1 := joinCore c s
  if s1.control.supply = .low then enterSilent o .departed s1 else s1

/-- Entry into DEPARTED; a NORMAL supply at that entry takes the station to JOINING with cause SUPPLY_RECOVERED (R178). -/
def enterDeparted (o : Orders) (s : State) : State :=
  let s1 := enterSilent o .departed s
  if s1.control.supply = .normal then joinCore .supplyRecovered s1 else s1

/-- Start the isolation hold (R181). -/
def startHold (s : State) : State := s.withControl { s.control with isolationHold := Timer.start isolationHoldMs }

/-- Entry into ISOLATED: the lanes are emptied and the hold starts (R181); a LOW supply at that entry takes the station to DEPARTED
(R178). -/
def enterIsolated (o : Orders) (s : State) : State :=
  let s1 := startHold (enterSilent o .isolated s)
  if s1.control.supply = .low then enterSilent o .departed s1 else s1

/-- Entry into RUNNING: the awaited set is discarded and the join window is stopped (R133). -/
def enterRunning (s : State) : State := (leaveState s).withStation .running

/-- The lanes at an entry into DEPARTING: a LEAVE takes the ROLL slot, or is owed behind a PRESENCE attempt on the medium (R97). -/
def placeLeave (onAir : Bool) (l : Lanes) : Lanes :=
  match l.roll with
  | none => { l with roll := some (freshRoll .leave) }
  | some f =>
    if onAir ∧ f.kind = .presence then { l with leaveOwed := true } else { l with roll := some (freshRoll .leave) }

/-- Entry into DEPARTING: the station places its LEAVE; no lane is emptied (R99, R179). -/
def enterDeparting (s : State) : State :=
  let s1 := (leaveState s).withStation .departing
  s1.withLanes (placeLeave (s1.onAir .roll) s1.link.lanes)

/-- The supply warning, taken against the present state (R167). -/
def takeWarning (o : Orders) (s : State) : State :=
  match s.control.station with
  | .listening => enterDeparted o s
  | .joining => if s.link.lanesOpen then enterDeparting s else enterDeparted o s
  | .running => enterDeparting s
  | .isolated => enterDeparted o s
  | _ => s

/-- The supply release, taken against the present state (R167, R180). -/
def takeRelease (o : Orders) (s : State) : State :=
  match s.control.station with
  | .departed => enterJoining o .supplyRecovered s
  | _ => s

/-- UNCONFIGURED with a reason (R174, R176). -/
def enterUnconfigured (r : Reason) (s : State) : State :=
  s.withControl { s.control with station := .unconfigured, reason := r }

/-! ### The setup takes effect (R175) -/

/-- A point record configured from the image (R2): point 16 is enabled, MAINTAINED and in the health group. -/
def configurePoint (img : Image) (p : PointNo) (r : PointRecord) : PointRecord :=
  if h : p.val < 16 then
    let n : LineNo := ⟨p.val, h⟩
    { r with enabled := imageEnabled img n, group := groupOf (imagePointGroup img n), sensitivity := imageSensitivity img n }
  else { r with enabled := true, group := imageHealthGroup img, sensitivity := .maintained }

/-- The sensed level of a pin through a polarity, true for asserted (R21). -/
def sensedThrough (pol : Polarity) (high : Bool) : Bool :=
  match pol with
  | .assertHigh => high
  | .assertLow => !high

/-- An input record configured from the image as the monitor starts (R20, R27). -/
def startInput (img : Image) (n : LineNo) (high : Bool) : InputRecord :=
  { enabled := imageEnabled img n, polarity := imagePolarity img n, sensitivity := imageSensitivity img n,
    time := qualOf (imagePointByte img n), qualified := false, rearm := true,
    timer := if sensedThrough (imagePolarity img n) high then Timer.start (qualMs (qualOf (imagePointByte img n))) else .stopped }

/-- A button record as the monitor starts: a pin then low starts the timer (R31). -/
def startButton (high : Bool) : ButtonRecord := { pressed := false, timer := if high then .stopped else Timer.start buttonMs }

/-- The Point Monitor as it starts (R27, R31). -/
def startMonitor (img : Image) (pins : Pins) : PointMonitor :=
  { inputs := Vector.ofFn (fun n => startInput img n pins.inputs[n]),
    buttons :=
      { ack := startButton pins.buttons.ack, restore := startButton pins.buttons.restore,
        silence := startButton pins.buttons.silence, test := startButton pins.buttons.test } }

/-- The station number's roster entry takes the own interval (R119). -/
def ownIntervalIn (me : Option StationNo) (img : Image) (v : Vector RosterEntry 48) : Vector RosterEntry 48 :=
  match me with
  | some n => updateAt v n.index (fun e => { e with interval := imageInterval img })
  | none => v

/-- R175: at the entry into LISTENING every block takes its configuration from the image and starts; the listen window starts
(R129) and the health cause monitor takes its starting level (R18). -/
def setupTakesEffect (img : Image) (s : State) : State :=
  { s with
    control := { s.control with station := .listening, loaded := some img },
    engine :=
      { s.engine with points := Vector.ofFn (fun p => configurePoint img p s.engine.points[p]), healthLevel := false },
    monitor := startMonitor img s.pins,
    ann :=
      { s.ann with scope := imageScope img, outputs := Vector.ofFn (imageOutput img) },
    roster :=
      { s.roster with
        entries := ownIntervalIn s.me img s.roster.entries, lossWindow := imageLossWindow img,
        listenWindow := Timer.start (imageLossWindow img * 1000) } }

/-- Entry into LISTENING; a LOW supply at that entry takes the station to DEPARTED (R178). -/
def enterListening (o : Orders) (img : Image) (s : State) : State :=
  let s1 := healthSync (setupTakesEffect img s)
  if s1.control.supply = .low then enterSilent o .departed s1 else s1

end Sys2Proof.Machine
end

