-- ==== Sys2Proof/Machine/Membership.lean ====
section
/-! DEFINITION. The Roster and the Repair Unit at one station number (07_roster_and_membership.md, 08_digests_and_repair.md). -/

namespace Sys2Proof.Machine

/-! ### Repair records -/

/-- The record of an owner returns to NONE, its timer stops and the owner is withdrawn from the lane (R144, R147). -/
def endRepair (n : StationNo) (s : State) : State := withdrawOwner n (s.setRepair n RepairRecord.atReset)

/-- A repair record that has made its request number `attempts` (R140, R145): the timer runs 2 × the interval. -/
def requestedRecord (attempts : Nat) (i : Interval) : RepairRecord :=
  { state := .requested, attempts := attempts, timer := Timer.start (2 * intervalMs i) }

/-- The receiver's digest count of an owner (R139). -/
def tableDigestCount (t : AlarmTable) (n : StationNo) : Nat :=
  (t.entries.filter (fun e => e.owner == n && !e.stale)).length

/-- The receiver's digest sum of an owner (R139). -/
def tableDigestSum (t : AlarmTable) (n : StationNo) : BitVec 16 :=
  ((t.entries.filter (fun e => e.owner == n && !e.stale)).map (fun e => digestTerm e.point e.revision)).foldl (· + ·) 0#16

/-- Whether the receiver's digest matches a PRESENCE's (R139). -/
def digestMatches (t : AlarmTable) (n : StationNo) (b : PresenceBody) : Bool :=
  tableDigestCount t n == b.digestCount.val && tableDigestSum t n == b.digestSum

/-- The digest comparison at a PRESENCE (R140). -/
def compareDigest (n : StationNo) (b : PresenceBody) (s : State) : State :=
  if s.control.station = .running ∧ s.table.overflow = false ∧ (s.repairOf n).state ≠ .requested then
    if digestMatches s.table n b then s.setRepair n RepairRecord.atReset
    else requestOwner n (s.setRepair n (requestedRecord 1 b.interval))
  else s

/-- The expiry of a repair timer (R145). -/
def repairExpiry (n : StationNo) (s : State) : State :=
  let r := s.repairOf n
  if r.state = .requested ∧ r.timer.isRunning then
    if r.attempts < 3 then requestOwner n (s.setRepair n (requestedRecord (r.attempts + 1) (s.member n).interval))
    else s.setRepair n { state := .failed, attempts := 3, timer := .stopped }
  else s

/-! ### The awaited set -/

/-- A member leaves the awaited set; if that empties it in JOINING, the station enters RUNNING (R132). -/
def awaitedRemove (n : StationNo) (s : State) : State :=
  if s.roster.awaited.contains n then
    let rest := s.roster.awaited.filter (· != n)
    let s1 := s.withRoster { s.roster with awaited := rest }
    if rest.isEmpty ∧ s1.control.station = .joining then enterRunning s1 else s1
  else s

/-! ### Loss, departure and revival -/

/-- What a loss or a departure hands on, in order (R122, R128): stale marking, the repair reset, the awaited set. The cadence
reference follows from the state. -/
def handOnLoss (o : Orders) (n : StationNo) (s : State) : State :=
  awaitedRemove n (causeMoment o (endRepair n (takeChange (setStale true n) s)))

/-- A PRESENT entry whose silence timer has run out becomes LOST (R122). -/
def silenceExpiry (o : Orders) (n : StationNo) (s : State) : State :=
  let e := s.member n
  if e.state = .present ∧ e.silence.isRunning then
    handOnLoss o n (s.setMember n { e with state := .lost, silence := .stopped })
  else s

/-- A LEAVE makes its source LEFT (R128). -/
def takeLeave (o : Orders) (n : StationNo) (s : State) : State :=
  handOnLoss o n (s.setMember n { s.member n with state := .left, silence := .stopped })

/-- R124: a station ABSENT, LOST or LEFT that is heard becomes PRESENT, and its table entries become non-stale. -/
def revive (n : StationNo) (s : State) : State :=
  match (s.member n).state with
  | .absent => takeChange (setStale false n) (s.setMember n { s.member n with state := .present })
  | .lost => takeChange (setStale false n) (s.setMember n { s.member n with state := .present })
  | .left => takeChange (setStale false n) (s.setMember n { s.member n with state := .present })
  | .present => s
  | .self => s

/-- R125, R121: the values a frame carries are recorded, and then the silence timer starts from zero, for L × the interval now
recorded. -/
def recordAndTime (n : StationNo) (f : RosterEntry → RosterEntry) (s : State) : State :=
  let e := f (s.member n)
  s.setMember n { e with silence := Timer.start (s.roster.lossWindow * intervalMs e.interval) }

/-- The Roster's take of a frame other than a LEAVE: the revival, the values recorded, the silence timer (R121, R124, R125). -/
def rosterTake (n : StationNo) (f : RosterEntry → RosterEntry) (s : State) : State := recordAndTime n f (revive n s)

/-- The restart check of a PRESENCE (R126): an unknown count is recorded, and a different one is recorded with the removal of the
source's entries and slots (R48). -/
def restartCheck (n : StationNo) (count : Byte) (s : State) : State :=
  match (s.member n).restartCount with
  | none => s.setMember n { s.member n with restartCount := some count }
  | some c =>
    if c = count then s
    else takeChange (removeOwner s.me n) (s.setMember n { s.member n with restartCount := some count })

/-- R137: a PRESENCE from the cadence reference sets the cadence phase. -/
def adoptCadence (n : StationNo) (phase : Phase) (s : State) : State :=
  if s.cadenceReference = some n then s.withAnn { s.ann with phase := phase } else s

/-- The presence timer's expiry: the ROLL lane is asked for a PRESENCE and the next interval starts at once (R97, R135). -/
def presenceExpiry (s : State) : State :=
  if s.roster.presence.isRunning then
    let s1 := s.withRoster { s.roster with presence := Timer.start (intervalMs s.ownInterval) }
    match s1.link.lanes.roll with
    | none => s1.withLanes { s1.link.lanes with roll := some (freshRoll .presence) }
    | some _ => s1
  else s

end Sys2Proof.Machine
end

