-- ==== Sys2Proof/Machine/Lanes.lean ====
section
/-! DEFINITION. Attempts on the link and their outcomes: the offer, the frame built at an attempt's start, failed attempts,
undelivered frames, and the delivery of an own frame (R87 to R97). -/

namespace Sys2Proof.Machine

/-! ### The offer (R91, R92, R93) -/

/-- The lowest-class lane that is not empty (R93). -/
def lowestLane (l : Lanes) : Option Lane :=
  match l.report, l.operator, l.repair, l.roll with
  | _ :: _, _, _, _ => some .report
  | [], _ :: _, _, _ => some .operator
  | [], [], _ :: _, _ => some .repair
  | [], [], [], some _ => some .roll
  | [], [], [], none => none

/-- The lane whose head the station may offer now: none while its frame is on the medium, before the first interframe gap (R77),
or in a state that offers nothing (R91); the JOIN alone until the own JOIN is delivered (R92). -/
def State.offer (s : State) : Option Lane :=
  if s.active && s.link.gapSensed && s.link.sending.isNone then
    match s.control.station with
    | .running => lowestLane s.link.lanes
    | .departing => lowestLane s.link.lanes
    | .joining =>
      if s.link.lanesOpen then lowestLane s.link.lanes
      else if s.link.lanes.roll.any (fun f => f.kind == .join) then some .roll else none
    | _ => none
  else none

/-! ### The frame of an attempt (R87) -/

/-- A PRESENCE's cadence phase: the sender's phase advanced by the frame's whole milliseconds (R110). -/
def State.presencePhase (s : State) : Phase :=
  ⟨(s.ann.phase.val + (match s.control.loaded with | some img => imagePresenceMs img | none => 0)) % 2000,
    Nat.mod_lt _ (by decide)⟩

/-- The PRESENCE's contents (R110). -/
def State.presenceBody (s : State) : PresenceBody :=
  { restartCount := s.control.restartCount, interval := s.ownInterval, digestCount := s.digestCount, digestSum := s.digestSum,
    phase := s.presencePhase }

/-- The JOIN's contents (R109). -/
def State.joinBody (s : State) : JoinBody :=
  { restartCount := s.control.restartCount, cause := s.control.joinCause.getD .powerOn, interval := s.ownInterval }

/-- The contents of the head of a lane, built from the state as it stands (R87). -/
def State.headPayload (s : State) : Lane → Option Payload
  | .report => s.link.lanes.report.head?.map (fun m => .report (s.contents m.point))
  | .operator => s.link.lanes.operator.head?.map (fun e => .operator ⟨e.target, e.action, e.items⟩)
  | .repair =>
    s.link.lanes.repair.head?.map (fun e =>
      match e.work with
      | .dump _ => .dump s.dumpBody
      | .request os => .resyncRequest os)
  | .roll =>
    s.link.lanes.roll.map (fun f =>
      match f.kind with
      | .join => .join s.joinBody
      | .presence => .presence s.presenceBody
      | .leave => .leave .supplyLow)

/-- Change the head of a list. -/
def onHead {α : Type} (f : α → α) : List α → List α
  | [] => []
  | x :: xs => f x :: xs

/-- A REPAIR element as its attempt starts: a DUMP's "again" flag is cleared (R96). -/
def startRepair (e : RepairEntry) : RepairEntry :=
  { e with
    attempt := e.failed + 1,
    work := match e.work with
      | .dump _ => .dump false
      | .request os => .request os }

/-- The head of a lane as its attempt starts (R87, R94, R95, R96): the attempt number is one more than the failed attempts. -/
def startHead (lane : Lane) (l : Lanes) : Lanes :=
  match lane with
  | .report => { l with report := onHead (fun m => { m with again := false, attempt := m.failed + 1 }) l.report }
  | .operator => { l with operator := onHead (fun e => { e with inTransmission := true, attempt := e.failed + 1 }) l.operator }
  | .repair => { l with repair := onHead startRepair l.repair }
  | .roll => { l with roll := l.roll.map (fun f => { f with attempt := f.failed + 1 }) }

/-- An attempt starts (R87). -/
def startAttempt (s : State) : State :=
  match s.me, s.offer with
  | some me, some lane =>
    match s.headPayload lane with
    | some p =>
      s.withLink
        { s.link with lanes := startHead lane s.link.lanes, sending := some ⟨lane, ⟨me, p⟩⟩, objecting := false }
    | none => s
  | _, _ => s

/-! ### The end of an attempt -/

/-- The failed attempts of the head of a lane. -/
def headFailed (lane : Lane) (l : Lanes) : Nat :=
  match lane with
  | .report => (l.report.head?.map (·.failed)).getD 0
  | .operator => (l.operator.head?.map (·.failed)).getD 0
  | .repair => (l.repair.head?.map (·.failed)).getD 0
  | .roll => (l.roll.map (·.failed)).getD 0

/-- The attempt number of the head of a lane. -/
def headAttempt (lane : Lane) (l : Lanes) : Nat :=
  match lane with
  | .report => (l.report.head?.map (·.attempt)).getD 0
  | .operator => (l.operator.head?.map (·.attempt)).getD 0
  | .repair => (l.repair.head?.map (·.attempt)).getD 0
  | .roll => (l.roll.map (·.attempt)).getD 0

/-- One more failed attempt of the head of a lane. -/
def failHead (lane : Lane) (l : Lanes) : Lanes :=
  match lane with
  | .report => { l with report := onHead (fun m => { m with failed := m.failed + 1 }) l.report }
  | .operator => { l with operator := onHead (fun e => { e with failed := e.failed + 1 }) l.operator }
  | .repair => { l with repair := onHead (fun e => { e with failed := e.failed + 1 }) l.repair }
  | .roll => { l with roll := l.roll.map (fun f => { f with failed := f.failed + 1 }) }

/-- The REPORT lane without its head: a mark "pending again" is re-appended at the tail (R94). -/
def dropReport : List ReportMark → List ReportMark
  | [] => []
  | m :: rest => if m.again then rest ++ [freshMark m.point] else rest

/-- The REPAIR lane without its head: a DUMP mark flagged again is re-appended at the tail (R96). -/
def dropRepair : List RepairEntry → List RepairEntry
  | [] => []
  | e :: rest =>
    match e.work with
    | .dump true => rest ++ [freshRepair (.dump false)]
    | _ => rest

/-- The ROLL slot after its frame is delivered: empty, or the owed LEAVE (R97). -/
def rollDelivered (l : Lanes) : Lanes :=
  if l.leaveOwed then { l with roll := some (freshRoll .leave), leaveOwed := false } else { l with roll := none }

/-- The ROLL slot after its frame is undelivered: a new JOIN for a JOIN, else empty (R97). -/
def rollUndelivered (l : Lanes) : Lanes :=
  match l.roll with
  | some f => if f.kind = .join then { l with roll := some (freshRoll .join) } else { l with roll := none }
  | none => l

/-- The lanes without the delivered head of a lane (R94 to R97). -/
def dropDelivered (lane : Lane) (l : Lanes) : Lanes :=
  match lane with
  | .report => { l with report := dropReport l.report }
  | .operator => { l with operator := l.operator.tail }
  | .repair => { l with repair := dropRepair l.repair }
  | .roll => rollDelivered l

/-- The lanes without the undelivered head of a lane (R89, R94 to R97). -/
def dropUndelivered (lane : Lane) (l : Lanes) : Lanes :=
  match lane with
  | .report => { l with report := dropReport l.report }
  | .operator => { l with operator := l.operator.tail }
  | .repair => { l with repair := dropRepair l.repair }
  | .roll => rollUndelivered l

/-- The owed LEAVE takes the slot from a PRESENCE whose attempt ended without delivery; the PRESENCE is not counted (R97). -/
def placeOwed (l : Lanes) : Lanes := { l with roll := some (freshRoll .leave), leaveOwed := false }

/-- Whether an attempt of the ROLL slot ended with a LEAVE owed behind it. -/
def owedBehind (lane : Lane) (l : Lanes) : Bool := lane == .roll && l.leaveOwed

/-- Whether the undelivered head was the station's LEAVE in DEPARTING (R89, R179). -/
def State.leaveEnds (s : State) (lane : Lane) : Bool :=
  lane == .roll && s.link.lanes.roll.any (fun f => f.kind == .leave) && s.control.station == .departing

/-- An undelivered frame (R89, R90): the head is removed, UNDELIVERED and the consecutive count advance, LINK_DEGRADED is set; the
sixteenth in a row isolates the station, and otherwise an undelivered LEAVE ends DEPARTING. -/
def undeliver (o : Orders) (lane : Lane) (s : State) : State :=
  let s1 := s.withLink
    { s.link with
      lanes := dropUndelivered lane s.link.lanes, undelivered := s.link.undelivered.bump, degraded := true,
      undeliveredRun := s.link.undeliveredRun + 1 }
  let s2 := causeMoment o s1
  if isolationLimit ≤ s.link.undeliveredRun + 1 then enterIsolated o s2
  else if s.leaveEnds lane then enterDeparted o s2
  else s2

/-- A failed attempt (R81, R84, R87, R89, R97). -/
def failAttempt (o : Orders) (lane : Lane) (s : State) : State :=
  let s1 := s.withLink { s.link with sending := none }
  if owedBehind lane s.link.lanes then s1.withLanes (placeOwed s.link.lanes)
  else
    let s2 := s1.withLanes (failHead lane s.link.lanes)
    if attemptLimit ≤ headFailed lane s.link.lanes + 1 then undeliver o lane s2 else s2

/-- OBJECTED at the sender: the attempt has failed (R84). At a receiver the slot ends and nothing else happens. -/
def takeObjected (o : Orders) (s : State) : State :=
  match s.link.sending with
  | some a => failAttempt o a.lane (s.withLink { s.link with objected := s.link.objected.bump })
  | none => s.withLink { s.link with objecting := false }

/-- COLLIDED: the sender stops and the attempt has failed (R81). -/
def takeCollided (o : Orders) (s : State) : State :=
  match s.link.sending with
  | some a => failAttempt o a.lane (s.withLink { s.link with collided := s.link.collided.bump })
  | none => s

/-- ARB_LOST: the sender stops; the head keeps its place and its failed attempts (R80), and an owed LEAVE takes the slot (R97). -/
def takeArbLost (s : State) : State :=
  match s.link.sending with
  | some a =>
    let s1 := s.withLink { s.link with sending := none, arbLost := s.link.arbLost.bump }
    if owedBehind a.lane s.link.lanes then s1.withLanes (placeOwed s.link.lanes) else s1
  | none => s

/-- A receiver judges a frame corrupt: it counts RECEIVED_BAD and drives the objection slot if its state allows (R83, R91). Bytes
that are a good frame are no such event, and a sender does not check its own frame (R82). -/
def takeCorrupt (bytes : List ReceivedByte) (s : State) : State :=
  if s.active && s.link.gapSensed && s.link.sending.isNone && (judge bytes).isNone then
    s.withLink { s.link with receivedBad := s.link.receivedBad.bump, objecting := s.control.station.objects }
  else s

/-! ### Delivery -/

/-- The Link Controller's own effects at the delivery of a frame the station sent (R88): DELIVERED advances, the consecutive count
returns to 0, a first attempt clears LINK_DEGRADED, and the head leaves its lane. -/
def ownDelivered (o : Orders) (lane : Lane) (s : State) : State :=
  let s1 := s.withLink
    { s.link with
      delivered := s.link.delivered.bump, undeliveredRun := 0, objecting := false,
      degraded := s.link.degraded && headAttempt lane s.link.lanes != 1 }
  let s2 := causeMoment o s1
  s2.withLink { s2.link with lanes := dropDelivered lane s2.link.lanes, sending := none }

/-- The delivery of a frame (R84, R88, R100, R101, R113): at its sender `own` follows the Link Controller's effects; at a receiver of
another station's frame `other` follows the count; a frame with the own number that the station did not send is handed to no block,
and finds a duplicate in the states of R100. -/
def deliver (o : Orders) (f : Frame) (own other : State → State) (s : State) : State :=
  if s.active then
    match s.link.sending with
    | some a => if a.frame = f then own (ownDelivered o a.lane s) else receive s
    | none => receive s
  else s
where
  /-- The frame at a station that did not send it. -/
  receive (s : State) : State :=
    if s.link.gapSensed then
      let s1 := s.withLink { s.link with receivedGood := s.link.receivedGood.bump, objecting := false }
      if s1.me = some f.source then
        if s1.control.station.objects then enterHalted o s1 else s1
      else other s1
    else s

end Sys2Proof.Machine
end

