-- ==== Sys2Proof/Machine/Attempts.lean ====
section
/-! DEFINITION. The commands of the link that deliver nothing: INTERFRAME_GAP_SENSED, ATTEMPT_START, ARB_LOST, COLLIDED, OBJECTED and
FRAME_RECEIVED_CORRUPT (05_link_access_and_delivery.md). -/

namespace Sys2Proof.Machine

/-- The controller has sensed one full interframe gap since its start (R77). -/
def senseGap (s : State) : State := s.withLink { s.link with gapSensed := true }

/-- INTERFRAME_GAP_SENSED. -/
def execInterframeGapSensed (s : State) : Host.Outcome State Fault Refusal := .next (whenActive senseGap s)

/-- ATTEMPT_START. -/
def execAttemptStart (s : State) : Host.Outcome State Fault Refusal := .next (whenActive startAttempt s)

/-- ARB_LOST. -/
def execArbLost (s : State) : Host.Outcome State Fault Refusal := .next (whenActive takeArbLost s)

/-- COLLIDED. -/
def execCollided (s : State) : Host.Outcome State Fault Refusal :=
  .next (whenActive (fun s => finish (takeCollided (Config.orders s.draws) s.drawn)) s)

/-- OBJECTED. -/
def execObjected (s : State) : Host.Outcome State Fault Refusal :=
  .next (whenActive (fun s => finish (takeObjected (Config.orders s.draws) s.drawn)) s)

/-- FRAME_RECEIVED_CORRUPT. -/
def execFrameReceivedCorrupt (bytes : List ReceivedByte) (s : State) : Host.Outcome State Fault Refusal :=
  .next (takeCorrupt bytes s)

end Sys2Proof.Machine
end

