-- ==== Sys2Proof/Machine/Deliveries.lean ====
section
/-! DEFINITION. The deliveries: what each of the seven frames does at its sender and at a receiver (R113), and the commands
REPORT_DELIVERED, OPERATOR_DELIVERED, RESYNC_REQUEST_DELIVERED, DUMP_DELIVERED, JOIN_DELIVERED, PRESENCE_DELIVERED and
LEAVE_DELIVERED. -/

namespace Sys2Proof.Machine

/-- Whether a station that takes a REPORT may give a first-out slot (R40). -/
def State.givesSlots (s : State) : Bool := s.control.station == .running

/-- The Alarm Table applies a REPORT of an owner (R37 to R40). -/
def applyReport (src : StationNo) (b : PointReport) (s : State) : State :=
  takeChange (applyContents s.me s.givesSlots src b) s

/-! ### REPORT -/

/-- A REPORT at a receiver. -/
def receiveReport (src : StationNo) (b : PointReport) (s : State) : State := applyReport src b (rosterTake src id s)

/-- A delivered REPORT. -/
def takeReport (o : Orders) (src : StationNo) (b : PointReport) (s : State) : State :=
  deliver o ⟨src, .report b⟩ (applyReport src b) (receiveReport src b) s

/-- REPORT_DELIVERED. -/
def execReportDelivered (src : StationNo) (b : PointReport) (s : State) : Host.Outcome State Fault Refusal :=
  .next (whenActive (fun s => finish (takeReport (Config.orders s.draws) src b s.drawn)) s)

/-! ### OPERATOR -/

/-- An OPERATOR frame at a receiver: the target checks its items (R70). -/
def receiveOperator (src : StationNo) (b : OperatorBody) (s : State) : State :=
  let s1 := rosterTake src id s
  if s1.me = some b.target then takeItems b.action b.items s1 else s1

/-- A delivered OPERATOR frame: at its sender it has no effect of its own. -/
def takeOperator (o : Orders) (src : StationNo) (b : OperatorBody) (s : State) : State :=
  deliver o ⟨src, .operator b⟩ id (receiveOperator src b) s

/-- OPERATOR_DELIVERED. -/
def execOperatorDelivered (src : StationNo) (b : OperatorBody) (s : State) : Host.Outcome State Fault Refusal :=
  .next (whenActive (fun s => finish (takeOperator (Config.orders s.draws) src b s.drawn)) s)

/-! ### RESYNC_REQUEST -/

/-- A RESYNC_REQUEST at a receiver: a listed station asks for its DUMP mark (R143), and every station withdraws the listed owners
(R142). -/
def receiveResync (src : StationNo) (owners : List StationNo) (s : State) : State :=
  let s1 := rosterTake src id s
  let s2 := if s1.me.any owners.contains then requestDump s1 else s1
  owners.foldl (fun s n => withdrawOwner n s) s2

/-- A delivered RESYNC_REQUEST: at its sender it has no effect of its own. -/
def takeResync (o : Orders) (src : StationNo) (owners : List StationNo) (s : State) : State :=
  deliver o ⟨src, .resyncRequest owners⟩ id (receiveResync src owners) s

/-- RESYNC_REQUEST_DELIVERED. -/
def execResyncRequestDelivered (src : StationNo) (owners : List StationNo) (s : State) : Host.Outcome State Fault Refusal :=
  .next (whenActive (fun s => finish (takeResync (Config.orders s.draws) src owners s.drawn)) s)

/-! ### DUMP -/

/-- The Alarm Table applies a DUMP (R43 to R46). -/
def applyDumpOf (src : StationNo) (b : DumpBody) (s : State) : State := takeChange (applyDump s.me src b.records) s

/-- The values a DUMP records in its source's entry (R125). -/
def recordDump (b : DumpBody) (e : RosterEntry) : RosterEntry := { e with restartCount := some b.restartCount }

/-- The Repair Unit and the Alarm Table take a DUMP in either order, and a cause may change between them (R17, R114, R144). -/
def repairAndTable (o : Orders) (src : StationNo) (b : DumpBody) (s : State) : State :=
  if o.repairFirst then applyDumpOf src b (causeMoment o (endRepair src s))
  else endRepair src (causeMoment o (applyDumpOf src b s))

/-- A DUMP at a receiver: the Roster records its count and removes its source from the awaited set (R125, R132), the Repair Unit ends
the repair, and the table replaces the source's entries. -/
def receiveDump (o : Orders) (src : StationNo) (b : DumpBody) (s : State) : State :=
  repairAndTable o src b (awaitedRemove src (rosterTake src (recordDump b) s))

/-- A delivered DUMP. -/
def takeDump (o : Orders) (src : StationNo) (b : DumpBody) (s : State) : State :=
  deliver o ⟨src, .dump b⟩ (applyDumpOf src b) (receiveDump o src b) s

/-- DUMP_DELIVERED. -/
def execDumpDelivered (src : StationNo) (b : DumpBody) (s : State) : Host.Outcome State Fault Refusal :=
  .next (whenActive (fun s => finish (takeDump (Config.orders s.draws) src b s.drawn)) s)

/-! ### JOIN -/

/-- The Alarm Table removes a joiner's entries and slots (R47). -/
def removeJoiner (src : StationNo) (s : State) : State := takeChange (removeOwner s.me src) s

/-- The values a JOIN records in its source's entry (R125). -/
def recordJoin (b : JoinBody) (e : RosterEntry) : RosterEntry :=
  { e with restartCount := some b.restartCount, joinCause := some b.cause, interval := b.interval }

/-- The stations PRESENT in the roster (R131). -/
def State.presentStations (s : State) : List StationNo := StationNo.all.filter (fun n => (s.member n).state == .present)

/-- The Link Controller opens the lanes (R92). -/
def openLanes (s : State) : State := s.withLink { s.link with lanesOpen := true }

/-- The SELF entry takes the cause of the own JOIN (R131 step 1). -/
def recordOwnCause (c : JoinCause) (s : State) : State :=
  match s.me with
  | some n => s.setMember n { s.member n with joinCause := some c }
  | none => s

/-- The presence timer starts, the awaited set is formed and the join window starts (R131 steps 2 to 4). -/
def formAwaited (s : State) : State :=
  s.withRoster
    { s.roster with
      presence := Timer.start (intervalMs s.ownInterval), awaited := s.presentStations,
      joinWindow := Timer.start joinWindowMs }

/-- An empty awaited set takes a station in JOINING to RUNNING at once (R131). -/
def runIfNoneAwaited (s : State) : State :=
  if s.roster.awaited.isEmpty ∧ s.control.station = .joining then enterRunning s else s

/-- The own JOIN's delivery (R47, R92, R131), in the present stay in JOINING. -/
def ownJoin (src : StationNo) (b : JoinBody) (s : State) : State :=
  if s.control.station = .joining then
    runIfNoneAwaited (removeJoiner src (requestDump (formAwaited (recordOwnCause b.cause (openLanes s)))))
  else s

/-- Whether a JOIN of another station asks for this station's DUMP (R127). -/
def State.answersJoin (s : State) : Bool :=
  match s.control.station with
  | .running => true
  | .joining => s.link.lanesOpen
  | _ => false

/-- A JOIN at a receiver (R47, R127). -/
def receiveJoin (src : StationNo) (b : JoinBody) (s : State) : State :=
  let s1 := removeJoiner src (rosterTake src (recordJoin b) s)
  if s1.answersJoin then requestDump s1 else s1

/-- A delivered JOIN. -/
def takeJoin (o : Orders) (src : StationNo) (b : JoinBody) (s : State) : State :=
  deliver o ⟨src, .join b⟩ (ownJoin src b) (receiveJoin src b) s

/-- JOIN_DELIVERED. -/
def execJoinDelivered (src : StationNo) (b : JoinBody) (s : State) : Host.Outcome State Fault Refusal :=
  .next (whenActive (fun s => finish (takeJoin (Config.orders s.draws) src b s.drawn)) s)

/-! ### PRESENCE -/

/-- The digest comparison, if its place among the acts on this PRESENCE is the one named (R141; log 8). -/
def compareIf (o : Orders) (place : ComparePlace) (src : StationNo) (b : PresenceBody) (s : State) : State :=
  if o.compare = place then compareDigest src b s else s

/-- The value a PRESENCE records in its source's entry before the silence timer starts (R125). -/
def recordInterval (b : PresenceBody) (e : RosterEntry) : RosterEntry := { e with interval := b.interval }

/-- A PRESENCE at a receiver: the revival, the values recorded with the restart check, the digest comparison among them, and the
cadence (R121, R124 to R126, R137, R140, R141). -/
def receivePresence (o : Orders) (src : StationNo) (b : PresenceBody) (s : State) : State :=
  let s1 := compareIf o .afterRevival src b (revive src (compareIf o .beforeRevival src b s))
  let s2 := restartCheck src b.restartCount (recordAndTime src (recordInterval b) s1)
  adoptCadence src b.phase (compareIf o .afterRestart src b s2)

/-- A delivered PRESENCE: at its sender it has no effect of its own. -/
def takePresence (o : Orders) (src : StationNo) (b : PresenceBody) (s : State) : State :=
  deliver o ⟨src, .presence b⟩ id (receivePresence o src b) s

/-- PRESENCE_DELIVERED. -/
def execPresenceDelivered (src : StationNo) (b : PresenceBody) (s : State) : Host.Outcome State Fault Refusal :=
  .next (whenActive (fun s => finish (takePresence (Config.orders s.draws) src b s.drawn)) s)

/-! ### LEAVE -/

/-- The own LEAVE's delivery ends DEPARTING (R179). -/
def ownLeave (o : Orders) (s : State) : State := if s.control.station = .departing then enterDeparted o s else s

/-- A delivered LEAVE. -/
def takeLeaveFrame (o : Orders) (src : StationNo) (c : LeaveCause) (s : State) : State :=
  deliver o ⟨src, .leave c⟩ (ownLeave o) (takeLeave o src) s

/-- LEAVE_DELIVERED. -/
def execLeaveDelivered (src : StationNo) (c : LeaveCause) (s : State) : Host.Outcome State Fault Refusal :=
  .next (whenActive (fun s => finish (takeLeaveFrame (Config.orders s.draws) src c s.drawn)) s)

end Sys2Proof.Machine
end

