-- ==== Sys2Proof/Machine/Presses.lean ====
section
/-! DEFINITION. The operator's presses at the panel: the snapshot, the own items and the owner groups (04_operator_actions.md). -/

namespace Sys2Proof.Machine

/-! ### The snapshot (R60, R61) -/

/-- Whether a press of an action selects an entry (R60). -/
def selects (scope : BitVec 8) (a : Action) (e : Entry) : Bool :=
  scope.getLsbD e.group.val && !e.stale &&
    match a with
    | .ack => e.state == .alert || e.state == .unackCleared
    | .restore => e.state == .ringback

/-- The entries of the snapshot, oldest first. -/
def snapshot (scope : BitVec 8) (a : Action) (t : AlarmTable) : List Entry := t.entries.filter (selects scope a)

/-- The item an entry of the snapshot becomes. -/
def Entry.item (e : Entry) : Item := { point := e.point, revision := e.revision }

/-- The items of one owner, in snapshot order. -/
def itemsFor (o : StationNo) (snap : List Entry) : List Item := (snap.filter (fun e => e.owner == o)).map Entry.item

/-- The members of a list at their first places. -/
def firsts (l : List StationNo) : List StationNo := l.foldl (fun seen o => if seen.contains o then seen else seen ++ [o]) []

/-- The owners of the remote items, by their first item's place. -/
def remoteOwners (me : Option StationNo) (snap : List Entry) : List StationNo :=
  firsts ((snap.map (fun e => e.owner)).filter (fun o => some o != me))

/-! ### The OPERATOR lane (R65 to R68) -/

/-- One item merged into a list: it replaces the revision of its point, or joins the end (R66). -/
def mergeItem (items : List Item) (i : Item) : List Item :=
  if items.any (fun x => x.point == i.point) then items.map (fun x => if x.point = i.point then i else x) else items ++ [i]

/-- Whether a group of an owner and an action can merge into an entry (R66). -/
def mergeable (o : StationNo) (a : Action) (e : OperatorEntry) : Bool := e.target == o && e.action == a && !e.inTransmission

/-- The lane with a group merged into the first entry that takes it; none where no entry does. -/
def mergeInto (o : StationNo) (a : Action) (items : List Item) : List OperatorEntry → Option (List OperatorEntry)
  | [] => none
  | e :: rest =>
    if mergeable o a e then some ({ e with items := items.foldl mergeItem e.items } :: rest)
    else (mergeInto o a items rest).map (e :: ·)

/-- The entry a group becomes (R67). -/
def freshOperator (o : StationNo) (a : Action) (items : List Item) : OperatorEntry :=
  { target := o, action := a, items := items, inTransmission := false, attempt := 0, failed := 0 }

/-- OPERATOR_DROPPED advances (R59, R67, R68). -/
def countOperatorDrop (s : State) : State := s.withAnn { s.ann with operatorDropped := s.ann.operatorDropped.bump }

/-- An owner group is placed: it merges, or joins the tail, or is dropped for want of room (R66, R67). -/
def placeGroup (a : Action) (snap : List Entry) (s : State) (o : StationNo) : State :=
  match mergeInto o a (itemsFor o snap) s.link.lanes.operator with
  | some lane => s.withLanes { s.link.lanes with operator := lane }
  | none =>
    if s.link.lanes.operator.length < operatorRoom then
      s.withLanes { s.link.lanes with operator := s.link.lanes.operator ++ [freshOperator o a (itemsFor o snap)] }
    else countOperatorDrop s

/-- The remote items of a press, by the station state (R68). -/
def placeGroups (a : Action) (snap : List Entry) (s : State) : State :=
  (remoteOwners s.me snap).foldl (fun s o => if s.control.station.silent then countOperatorDrop s else placeGroup a snap s o) s

/-- The own items of a press are handed to the engine (R64). -/
def takeOwnItems (a : Action) (snap : List Entry) (s : State) : State :=
  match s.me with
  | some me => takeItems a (itemsFor me snap) s
  | none => s

/-- The snapshot of a press, its own items taken and its owner groups placed (R62 steps 1 to 3, R63). -/
def pressItems (a : Action) (s : State) : State :=
  placeGroups a (snapshot s.ann.scope a s.table) (takeOwnItems a (snapshot s.ann.scope a s.table) s)

/-- The horn latch is cleared (R62, R74). -/
def clearHorn (s : State) : State := s.withAnn { s.ann with horn := false }

/-- The TEST state (R75). -/
def setTest (held : Bool) (s : State) : State := s.withAnn { s.ann with test := held }

/-- The event of a button whose qualified level has changed (R32). -/
def buttonEvent (k : Button) (pressed : Bool) (s : State) : State :=
  match k, pressed with
  | .ack, true => clearHorn (pressItems .ack s)
  | .restore, true => pressItems .restore s
  | .silence, true => clearHorn s
  | .test, true => setTest true s
  | .test, false => setTest false s
  | .ack, false => s
  | .restore, false => s
  | .silence, false => s

end Sys2Proof.Machine
end

