-- ==== Sys2Proof/Machine/Field.lean ====
section
/-! DEFINITION. The field lines: INPUT_LEVEL_CHANGE, QUALIFICATION_TIMER_EXPIRY, BUTTON_LEVEL_CHANGE and
BUTTON_QUALIFICATION_EXPIRY (02_field_inputs_and_buttons.md). -/

namespace Sys2Proof.Machine

/-- The point an input serves (R20). -/
def linePoint (i : LineNo) : PointNo := ⟨i.val, by omega⟩

/-- The sensed level of an input, true for asserted (R21). -/
def State.sensedInput (s : State) (i : LineNo) : Bool := sensedThrough (s.input i).polarity s.pins.inputs[i]

/-- The sensed level of a button, true for pressed: the inputs are active low (R30). -/
def State.sensedButton (s : State) (k : Button) : Bool := !s.pins.buttons.get k

/-- The qualification timer after a change of the sensed level (R22). -/
def timerAfterChange (sensed qualified : Bool) (length : Nat) : Timer := if sensed = qualified then .stopped else Timer.start length

/-! ### Inputs -/

/-- The pin of an input at a level. -/
def setInputPin (i : LineNo) (high : Bool) (s : State) : State := s.withPins { s.pins with inputs := s.pins.inputs.set i high }

/-- The qualification timer of an input takes the sensed level (R22). -/
def timeInput (i : LineNo) (s : State) : State :=
  s.setInput i
    { s.input i with timer := timerAfterChange (s.sensedInput i) (s.input i).qualified (qualMs (s.input i).time) }

/-- A pin that changes moves the timer while the monitor runs (R22, R27, R28). -/
def inputChange (i : LineNo) (high : Bool) (s : State) : State :=
  if s.active && s.pins.inputs[i] != high then timeInput i (setInputPin i high s) else setInputPin i high s

/-- INPUT_LEVEL_CHANGE. -/
def execInputLevelChange (i : LineNo) (high : Bool) (s : State) : Host.Outcome State Fault Refusal :=
  .next (inputChange i high s)

/-- An input record as its qualified level takes a level: the re-arm flag of a momentary input follows R25, for a disabled one too
(R26). -/
def InputRecord.qualify (r : InputRecord) (level : Bool) : InputRecord :=
  { r with
    qualified := level, timer := .stopped,
    rearm := match r.sensitivity with
      | .maintained => r.rearm
      | .momentary => if level = r.qualified then r.rearm else !level }

/-- The event an input raises as its qualified level takes a level (R24, R25, R26). -/
def InputRecord.event (r : InputRecord) (level : Bool) : Option FieldEvent :=
  if r.enabled = false ∨ level = r.qualified then none
  else
    match r.sensitivity, level with
    | .maintained, true => some .assert
    | .maintained, false => some .clear
    | .momentary, true => if r.rearm then some .capture else none
    | .momentary, false => none

/-- An event, if there is one, is handed to the engine (R29). -/
def raise (p : PointNo) (ev : Option FieldEvent) (s : State) : State :=
  match ev with
  | some e => fieldEvent p e s
  | none => s

/-- A qualification timer runs out (R22). -/
def qualificationExpiry (i : LineNo) (s : State) : State :=
  if (s.input i).timer.isRunning then
    raise (linePoint i) ((s.input i).event (s.sensedInput i)) (s.setInput i ((s.input i).qualify (s.sensedInput i)))
  else s

/-- QUALIFICATION_TIMER_EXPIRY. -/
def execQualificationTimerExpiry (i : LineNo) (s : State) : Host.Outcome State Fault Refusal :=
  .next (whenActive (fun s => finish (qualificationExpiry i s)) s)

/-! ### Buttons -/

/-- The button pin at a level. -/
def setButtonPin (k : Button) (high : Bool) (s : State) : State :=
  s.withPins { s.pins with buttons := s.pins.buttons.put high k }

/-- A button record. -/
def State.button (s : State) (k : Button) : ButtonRecord := s.monitor.buttons.get k

/-- The qualification timer of a button takes the sensed level (R30). -/
def timeButton (k : Button) (s : State) : State :=
  s.setButton k { s.button k with timer := timerAfterChange (s.sensedButton k) (s.button k).pressed buttonMs }

/-- A button pin that changes moves the timer while the monitor runs (R30, R31). -/
def buttonChange (k : Button) (high : Bool) (s : State) : State :=
  if s.active && s.pins.buttons.get k != high then timeButton k (setButtonPin k high s) else setButtonPin k high s

/-- BUTTON_LEVEL_CHANGE. -/
def execButtonLevelChange (k : Button) (high : Bool) (s : State) : Host.Outcome State Fault Refusal :=
  .next (buttonChange k high s)

/-- A button's timer runs out: the qualified level takes the sensed level, and a change of it raises its event (R30, R32). -/
def buttonExpiry (k : Button) (s : State) : State :=
  if (s.button k).timer.isRunning then
    let s1 := s.setButton k { pressed := s.sensedButton k, timer := .stopped }
    if s.sensedButton k = (s.button k).pressed then s1 else buttonEvent k (s.sensedButton k) s1
  else s

/-- BUTTON_QUALIFICATION_EXPIRY. -/
def execButtonQualificationExpiry (k : Button) (s : State) : Host.Outcome State Fault Refusal :=
  .next (whenActive (fun s => finish (buttonExpiry k s)) s)

end Sys2Proof.Machine
end

