-- ==== Sys2Proof/Machine/Port.lean ====
section
/-! DEFINITION. The Service Port (11_service_port.md) and the commands SERVICE_BYTE_RECEIVED, SERVICE_GAP_TIMER_EXPIRY,
SERVICE_FRAMING_FAULT, RESPONSE_COMPLETE, STATUS, READ_TABLE, READ_ROSTER, READ_POINTS, READ_SETUP, SETUP and
UNKNOWN_REQUEST_KIND. -/

namespace Sys2Proof.Machine

/-! ### Codes and encodings of service payloads (R116) -/

/-- The station state code. -/
def stationCode : StationState → Byte
  | .starting => 0#8
  | .setupWait => 1#8
  | .storing => 2#8
  | .listening => 3#8
  | .joining => 4#8
  | .running => 5#8
  | .departing => 6#8
  | .departed => 7#8
  | .isolated => 8#8
  | .halted => 9#8
  | .unconfigured => 10#8

/-- The code of the UNCONFIGURED reason. -/
def unconfiguredCode : Reason → Byte
  | .none => 0#8
  | .storeBlank => 1#8
  | .storeCorrupt => 2#8
  | .strapInvalid => 3#8

/-- The reset cause code. -/
def resetCauseCode : ResetCause → Byte
  | .powerOn => 0#8
  | .resetPin => 1#8
  | .supplyLow => 2#8

/-- The roster entry state code. -/
def membershipCode : Membership → Byte
  | .absent => 0#8
  | .present => 1#8
  | .lost => 2#8
  | .left => 3#8
  | .self => 4#8

/-- The report mark code. -/
def markCode : MarkState → Byte
  | .none => 0#8
  | .pending => 1#8
  | .pendingAgain => 2#8

/-- The sensitivity code. -/
def sensitivityCode : Sensitivity → Byte
  | .maintained => 0#8
  | .momentary => 1#8

/-- A yes-or-no field. -/
def yesByte (b : Bool) : Byte := if b then 1#8 else 0#8

/-- A counter field, high byte first. -/
def counterBytes (c : Counter) : List Byte := [highByte c, lowByte c]

/-- A field of one byte that may be absent. -/
def optionBytes (x : Option Byte) : List Byte :=
  match x with
  | some b => [1#8, b]
  | none => [0#8, 0#8]

/-- A first-out slot. -/
def slotBytes (h : Option Condition) : List Byte :=
  match h with
  | some c => [byteOf c.owner.number, byteOf c.point.val]
  | none => [0#8, 0#8]

/-! ### The payloads of R185 -/

/-- STATUS. -/
def State.statusPayload (s : State) : List Byte :=
  [stationCode s.control.station, s.control.number.setWidth 8, unconfiguredCode s.control.reason,
    resetCauseCode s.control.resetCause, s.control.restartCount, yesByte s.lampFault, yesByte s.table.tableOverflow,
    yesByte s.link.degraded, yesByte s.repairFailed, yesByte s.table.overflow] ++
  counterBytes s.link.delivered ++ counterBytes s.link.objected ++ counterBytes s.link.collided ++
  counterBytes s.link.arbLost ++ counterBytes s.link.undelivered ++ counterBytes s.link.receivedGood ++
  counterBytes s.link.receivedBad ++ counterBytes s.engine.itemsRefused ++ counterBytes s.table.dropped ++
  counterBytes s.ann.operatorDropped ++ counterBytes s.service.errors

/-- One table entry of READ_TABLE. -/
def entryBytes (e : Entry) : List Byte :=
  [byteOf e.owner.number, byteOf e.point.val, byteOf e.group.val, seqCode (seqOf e.state), e.revision, yesByte e.foEligible,
    yesByte e.audible, yesByte e.stale]

/-- READ_TABLE. -/
def State.tablePayload (s : State) : List Byte :=
  byteOf s.table.entries.length :: s.table.entries.flatMap entryBytes ++ s.table.slots.toList.flatMap slotBytes

/-- One roster entry of READ_ROSTER. -/
def rosterBytes (e : RosterEntry) : List Byte :=
  membershipCode e.state :: optionBytes e.restartCount ++ optionBytes (e.joinCause.map joinCauseCode) ++
    [intervalCode e.interval, yesByte e.silence.isRunning]

/-- READ_ROSTER. -/
def State.rosterPayload (s : State) : List Byte := s.roster.entries.toList.flatMap rosterBytes

/-- One point record of READ_POINTS. -/
def State.pointBytes (s : State) (p : PointNo) : List Byte :=
  [byteOf p.val, yesByte (s.point p).enabled, byteOf (s.point p).group.val, sensitivityCode (s.point p).sensitivity,
    seqCode (s.point p).state, (s.point p).revision, markCode (s.reportMark p)]

/-- READ_POINTS. -/
def State.pointsPayload (s : State) : List Byte :=
  (List.finRange 17).flatMap s.pointBytes ++ s.monitor.inputs.toList.map (fun r => yesByte r.qualified)

/-- The payload of an OK answer to a read request, by its kind (R185). -/
def State.readPayload (s : State) (kind : Byte) : List Byte :=
  if kind = statusKind then s.statusPayload
  else if kind = readTableKind then s.tablePayload
  else if kind = readRosterKind then s.rosterPayload
  else if kind = readPointsKind then s.pointsPayload
  else s.control.storeImage.toList

/-! ### Judging a request (R171, R172, R184) -/

/-- A whole request as the receiver holds it: the declared payload length, the payload bytes kept, and the sum of all bytes. -/
structure Request where
  kind : Byte
  length : Nat
  kept : List Byte
  sum : Byte
deriving DecidableEq, Repr

/-- What a request comes to: an answer, or an accepted SETUP. -/
inductive Verdict where
  | answer (result : Result) (payload : List Byte)
  | accepted (image : Image)
deriving DecidableEq, Repr

/-- An INVALID answer with its reason and detail byte (R115). -/
def invalidAnswer (r : InvalidReason) (detail : Byte) : Verdict := .answer .invalid [reasonCode r, detail]

/-- Station Control judges a SETUP (R171, R172). -/
def judgeSetup (s : State) (length : Nat) (kept : List Byte) : Verdict :=
  if s.control.setupAccepted then .answer .alreadySet []
  else if s.control.station ≠ .setupWait then .answer .locked []
  else if length ≠ 96 then invalidAnswer .badFormat 0#8
  else
    match imageOf? kept with
    | none => invalidAnswer .badFormat 0#8
    | some img =>
      match imageRefusal? img with
      | some (r, d) => invalidAnswer r d
      | none => .accepted img

/-- The tests of R184, in order. -/
def judgeRequest (s : State) (q : Request) : Verdict :=
  if q.sum ≠ 0#8 then .answer .badCheck []
  else if q.kind = 0#8 ∨ 6 < q.kind.toNat then .answer .unknownRequest []
  else if s.control.station = .storing ∧ q.kind ≠ statusKind then .answer .busy []
  else if q.kind = setupKind then judgeSetup s q.length q.kept
  else if q.length ≠ 0 then invalidAnswer .badFormat 0#8
  else .answer .ok (s.readPayload q.kind)

/-- A response begins to be sent (R186). -/
def beginResponse (bytes : List Byte) (s : State) : State := s.withService { s.service with response := some bytes }

/-- A SETUP is accepted: the write starts, its first step sets the store status to CORRUPT, the station enters STORING, and the
answer is owed (R171, R173, R187). -/
def acceptSetup (img : Image) (s : State) : State :=
  (s.withControl
    { s.control with setupAccepted := true, storeStatus := .corrupt, storeWrite := some img, station := .storing }).withService
    { s.service with answerOwed := true }

/-- A whole request is taken at its last byte (R184). -/
def takeRequest (q : Request) (s : State) : State :=
  match judgeRequest s q with
  | .answer r payload => beginResponse (responseBytes q.kind r payload) s
  | .accepted img => acceptSetup img s

/-! ### The receiver (R183) -/

/-- Whether the port receives: from the entry into SETUP_WAIT until the next reset (R182). -/
def State.portLive (s : State) : Bool := !s.control.inReset && s.control.station != .starting

/-- SERVICE_ERRORS advances (R182). -/
def countServiceError (s : State) : State := s.withService { s.service with errors := s.service.errors.bump }

/-- The declared payload length (R183). -/
def RxBuffer.length (r : RxBuffer) : Nat := (word16 r.lengthHigh r.lengthLow).toNat

/-- A new request of one byte. -/
def firstByte (b : Byte) : RxBuffer := { kind := b, lengthHigh := 0#8, lengthLow := 0#8, kept := [], sum := b, count := 1 }

/-- A further byte of a request: the buffer keeps the first 96 payload bytes. -/
def RxBuffer.add (r : RxBuffer) (b : Byte) : RxBuffer :=
  { r with
    count := r.count + 1, sum := r.sum + b,
    lengthHigh := if r.count = 1 then b else r.lengthHigh,
    lengthLow := if r.count = 2 then b else r.lengthLow,
    kept := if 3 ≤ r.count ∧ r.count < 3 + r.length ∧ r.kept.length < 96 then r.kept ++ [b] else r.kept }

/-- Whether a request is complete: 3 + payload length + 1 bytes (R183). -/
def RxBuffer.complete (r : RxBuffer) : Bool := decide (4 ≤ r.count) && r.count == 3 + r.length + 1

/-- The request that a complete buffer holds. -/
def RxBuffer.request (r : RxBuffer) : Request := { kind := r.kind, length := r.length, kept := r.kept, sum := r.sum }

/-- The receiver with a buffer: a complete request is taken, and otherwise the gap timer starts from zero (R183). -/
def holdBuffer (r : RxBuffer) (s : State) : State :=
  if r.complete then takeRequest r.request (s.withService { s.service with rx := none, gap := .stopped })
  else s.withService { s.service with rx := some r, gap := Timer.start serviceGapMs }

/-- A byte arrives on SRX (R182, R183, R186). -/
def serviceByte (s : State) (b : Byte) : State :=
  if s.portLive then
    match s.service.response, s.service.rx with
    | some _, _ => countServiceError s
    | none, none => holdBuffer (firstByte b) s
    | none, some r => holdBuffer (r.add b) s
  else s

/-- The owed OK begins once the write has completed, no response is in progress and the receiver is IDLE (R187). -/
def tryOwed (s : State) : State :=
  if s.service.answerOwed ∧ s.control.storeWrite = none ∧ s.service.response = none ∧ s.service.rx = none then
    s.withService { s.service with response := some (responseBytes setupKind .ok []), answerOwed := false }
  else s

/-- A partial request is discarded and counted, and an owed OK follows the discard (R183, R187). -/
def discardRequest (s : State) : State :=
  tryOwed (countServiceError (s.withService { s.service with rx := none, gap := .stopped }))

/-- The gap timer runs out (R183). -/
def gapExpiry (s : State) : State :=
  if s.portLive ∧ s.service.rx.isSome ∧ s.service.gap.isRunning then discardRequest s else s

/-- A byte with a bad stop bit (R183). -/
def framingFault (s : State) : State := if s.portLive then discardRequest s else s

/-- The last byte of a response has been sent (R186, R187). -/
def endResponse (s : State) : State :=
  if s.portLive ∧ s.service.response.isSome then tryOwed (s.withService { s.service with response := none }) else s

/-- The bytes of a whole request arrive one after another (log 5). -/
def receiveAll (kind : Byte) (body : RequestBody) (s : State) : State := (requestBytes kind body).foldl serviceByte s

/-! ### The commands -/

/-- SERVICE_BYTE_RECEIVED. -/
def execServiceByteReceived (b : Byte) (s : State) : Host.Outcome State Fault Refusal := .next (serviceByte s b)

/-- SERVICE_GAP_TIMER_EXPIRY. -/
def execServiceGapTimerExpiry (s : State) : Host.Outcome State Fault Refusal := .next (gapExpiry s)

/-- SERVICE_FRAMING_FAULT. -/
def execServiceFramingFault (s : State) : Host.Outcome State Fault Refusal := .next (framingFault s)

/-- RESPONSE_COMPLETE. -/
def execResponseComplete (s : State) : Host.Outcome State Fault Refusal := .next (endResponse s)

/-- STATUS. -/
def execStatus (body : RequestBody) (s : State) : Host.Outcome State Fault Refusal := .next (receiveAll statusKind body s)

/-- READ_TABLE. -/
def execReadTable (body : RequestBody) (s : State) : Host.Outcome State Fault Refusal := .next (receiveAll readTableKind body s)

/-- READ_ROSTER. -/
def execReadRoster (body : RequestBody) (s : State) : Host.Outcome State Fault Refusal := .next (receiveAll readRosterKind body s)

/-- READ_POINTS. -/
def execReadPoints (body : RequestBody) (s : State) : Host.Outcome State Fault Refusal := .next (receiveAll readPointsKind body s)

/-- READ_SETUP. -/
def execReadSetup (body : RequestBody) (s : State) : Host.Outcome State Fault Refusal := .next (receiveAll readSetupKind body s)

/-- SETUP. -/
def execSetup (body : RequestBody) (s : State) : Host.Outcome State Fault Refusal := .next (receiveAll setupKind body s)

/-- UNKNOWN_REQUEST_KIND. -/
def execUnknownRequestKind (kind : Byte) (body : RequestBody) (s : State) : Host.Outcome State Fault Refusal :=
  .next (receiveAll kind body s)

end Sys2Proof.Machine
end

