-- ==== Sys2Proof/Machine/Supply.lean ====
section
/-! DEFINITION. Resets, the start, the setup store and the supply: POWER_ON, RESET_PIN, SUPPLY_LOW, LEAVE_RESET,
SETUP_WINDOW_EXPIRY, STORE_WRITE_COMPLETE, SUPPLY_WARNING and SUPPLY_RELEASE (10_start_up_setup_and_supply.md). -/

namespace Sys2Proof.Machine

/-! ### Entering reset (R166, R169, R173) -/

/-- An interrupted write: each byte is the new one or the old one (R173). -/
def mixedImage (isNew : Fin 96 → Bool) (old new : Image) : Image := Vector.ofFn (fun i => if isNew i then new[i] else old[i])

/-- The store image after a reset: a write in progress stops where it stands (R173). -/
def imageAfterReset (isNew : Fin 96 → Bool) (c : StationControl) : Image :=
  match c.storeWrite with
  | some img => mixedImage isNew c.storeImage img
  | none => c.storeImage

/-- Station Control with its volatile fields at their values after reset (R166); the stored state is kept. -/
def StationControl.resetVolatile (c : StationControl) : StationControl :=
  { c with
    station := .starting, number := 0#6, reason := .none, loaded := none, setupAccepted := false, setupWindow := .stopped,
    storeWrite := none, joinCause := none, isolationHold := .stopped, supply := .normal }

/-- Every block at its values after reset (R169). -/
def blocksReset (s : State) : State :=
  { s with
    control := s.control.resetVolatile, engine := .atReset, monitor := .atReset, table := .atReset, ann := .atReset,
    link := .atReset, roster := .atReset, repair := repairNone, service := .atReset }

/-- The part enters reset. `power` says that the supply fell below the power-on level, `fell` that it fell below the reset level;
what happened adds up until the part leaves reset (R169). -/
def enterReset (isNew : Fin 96 → Bool) (power fell : Bool) (s : State) : State :=
  blocksReset
    (s.withControl
      { s.control with
        storeImage := imageAfterReset isNew s.control, inReset := true, powerLost := s.control.powerLost || power,
        supplyFell := s.control.supplyFell || fell })

/-- POWER_ON. -/
def execPowerOn (s : State) : Host.Outcome State Fault Refusal :=
  .next (enterReset (Config.storeByteNew s.draws) true false s.drawn)

/-- RESET_PIN. -/
def execResetPin (s : State) : Host.Outcome State Fault Refusal :=
  .next (enterReset (Config.storeByteNew s.draws) false false s.drawn)

/-- SUPPLY_LOW. -/
def execSupplyLow (s : State) : Host.Outcome State Fault Refusal :=
  .next (enterReset (Config.storeByteNew s.draws) false true s.drawn)

/-! ### Leaving reset (R118, R119, R169, R170, R171) -/

/-- The reset cause, by what happened during the reset (R169). -/
def causeOfReset (c : StationControl) : ResetCause :=
  if c.powerLost then .powerOn else if c.supplyFell then .supplyLow else .resetPin

/-- The restart count, by what happened during the reset (R169). -/
def countOfReset (c : StationControl) : Byte := if c.powerLost then 0#8 else c.restartCount + 1#8

/-- The roster entries once the straps are read: the own entry is SELF with the restart count (R118, R119). -/
def withSelf (me : Option StationNo) (count : Byte) (v : Vector RosterEntry 48) : Vector RosterEntry 48 :=
  match me with
  | some n => v.set n.index { RosterEntry.atReset with state := .self, restartCount := some count }
  | none => v

/-- The part leaves reset, sets the restart record, reads the straps in STARTING and enters SETUP_WAIT, where the setup window
starts. -/
def leaveReset (straps : BitVec 6) (s : State) : State :=
  if s.control.inReset then
    let s1 := blocksReset s
    (s1.withControl
      { s1.control with
        station := .setupWait, number := straps, resetCause := causeOfReset s.control,
        restartCount := countOfReset s.control, setupWindow := Timer.start setupWindowMs, inReset := false, powerLost := false,
        supplyFell := false }).withRoster
      { Roster.atReset with
        entries := withSelf (StationNo.ofNat? straps.toNat) (countOfReset s.control) Roster.atReset.entries }
  else s

/-- LEAVE_RESET. -/
def execLeaveReset (straps : BitVec 6) (s : State) : Host.Outcome State Fault Refusal := .next (leaveReset straps s)

/-! ### The setup window and the store write (R173, R174) -/

/-- What Station Control finds at the window's expiry: the reason to stop, or the image to load (R174). -/
def examineStore (s : State) : Reason ⊕ Image :=
  match s.control.storeStatus with
  | .blank => .inl .storeBlank
  | .corrupt => .inl .storeCorrupt
  | .valid =>
    if imageValid s.control.storeImage = false then .inl .storeCorrupt
    else if s.me = none then .inl .strapInvalid
    else .inr s.control.storeImage

/-- The window runs out (R171, R174): in SETUP_WAIT the store is examined, and in any other state only the timer stops (log 18). -/
def setupWindowExpiry (o : Orders) (s : State) : State :=
  if s.control.setupWindow.isRunning then
    let s1 := s.withControl { s.control with setupWindow := .stopped }
    if s.control.station = .setupWait then
      match examineStore s with
      | .inl r => enterUnconfigured r s1
      | .inr img => enterListening o img s1
    else s1
  else s

/-- SETUP_WINDOW_EXPIRY. -/
def execSetupWindowExpiry (s : State) : Host.Outcome State Fault Refusal :=
  .next (whenAwake (fun s => finish (setupWindowExpiry (Config.orders s.draws) s.drawn)) s)

/-- The store after a complete write (R173): the image is written, the status VALID, the write idle, the setup loaded. -/
def storeDone (img : Image) (s : State) : State :=
  s.withControl { s.control with storeImage := img, storeStatus := .valid, storeWrite := none, loaded := some img }

/-- The store write completes (R173). -/
def storeWriteComplete (o : Orders) (s : State) : State :=
  if s.control.station = .storing then
    match s.control.storeWrite with
    | some img =>
      let s1 := storeDone img s
      tryOwed (if s.me = none then enterUnconfigured .strapInvalid s1 else enterListening o img s1)
    | none => s
  else s

/-- STORE_WRITE_COMPLETE. -/
def execStoreWriteComplete (s : State) : Host.Outcome State Fault Refusal :=
  .next (whenAwake (fun s => finish (storeWriteComplete (Config.orders s.draws) s.drawn)) s)

/-! ### The supply monitor (R167, R177) -/

/-- The supply monitor's state. -/
def setSupply (x : Supply) (s : State) : State := s.withControl { s.control with supply := x }

/-- The supply falls below the warning level. -/
def supplyWarning (o : Orders) (s : State) : State :=
  match s.control.supply with
  | .normal => takeWarning o (setSupply .low s)
  | .low => s

/-- SUPPLY_WARNING. -/
def execSupplyWarning (s : State) : Host.Outcome State Fault Refusal :=
  .next (whenAwake (fun s => finish (supplyWarning (Config.orders s.draws) s.drawn)) s)

/-- The supply rises above the release level. -/
def supplyRelease (o : Orders) (s : State) : State :=
  match s.control.supply with
  | .low => takeRelease o (setSupply .normal s)
  | .normal => s

/-- SUPPLY_RELEASE. -/
def execSupplyRelease (s : State) : Host.Outcome State Fault Refusal :=
  .next (whenAwake (fun s => finish (supplyRelease (Config.orders s.draws) s.drawn)) s)

end Sys2Proof.Machine
end

