-- ==== Sys2Proof/Machine/Windows.lean ====
section
/-! DEFINITION. The windows and timers of membership: LISTEN_WINDOW_EXPIRY, JOIN_WINDOW_EXPIRY, ISOLATION_HOLD_EXPIRY,
PRESENCE_TIMER_EXPIRY, SILENCE_TIMER_EXPIRY and REPAIR_TIMER_EXPIRY. -/

namespace Sys2Proof.Machine

/-- The join cause of a station that joins from LISTENING: its reset cause (R109, R167). -/
def joinCauseOfReset : ResetCause → JoinCause
  | .powerOn => .powerOn
  | .resetPin => .resetPin
  | .supplyLow => .supplyLow

/-- The listen window runs out (R129). -/
def listenExpiry (o : Orders) (s : State) : State :=
  if s.control.station = .listening ∧ s.roster.listenWindow.isRunning then
    enterJoining o (joinCauseOfReset s.control.resetCause) s
  else s

/-- LISTEN_WINDOW_EXPIRY. -/
def execListenWindowExpiry (s : State) : Host.Outcome State Fault Refusal :=
  .next (whenActive (fun s => finish (listenExpiry (Config.orders s.draws) s.drawn)) s)

/-- The join window runs out (R133). -/
def joinWindowExpiry (s : State) : State :=
  if s.control.station = .joining ∧ s.roster.joinWindow.isRunning then enterRunning s else s

/-- JOIN_WINDOW_EXPIRY. -/
def execJoinWindowExpiry (s : State) : Host.Outcome State Fault Refusal :=
  .next (whenActive (fun s => finish (joinWindowExpiry s)) s)

/-- The isolation hold runs out (R181). -/
def holdExpiry (o : Orders) (s : State) : State :=
  if s.control.station = .isolated ∧ s.control.isolationHold.isRunning then enterJoining o .isolation s else s

/-- ISOLATION_HOLD_EXPIRY. -/
def execIsolationHoldExpiry (s : State) : Host.Outcome State Fault Refusal :=
  .next (whenActive (fun s => finish (holdExpiry (Config.orders s.draws) s.drawn)) s)

/-- PRESENCE_TIMER_EXPIRY. -/
def execPresenceTimerExpiry (s : State) : Host.Outcome State Fault Refusal := .next (whenActive presenceExpiry s)

/-- SILENCE_TIMER_EXPIRY. -/
def execSilenceTimerExpiry (n : StationNo) (s : State) : Host.Outcome State Fault Refusal :=
  .next (whenActive (fun s => finish (silenceExpiry (Config.orders s.draws) n s.drawn)) s)

/-- REPAIR_TIMER_EXPIRY. -/
def execRepairTimerExpiry (n : StationNo) (s : State) : Host.Outcome State Fault Refusal :=
  .next (whenActive (fun s => finish (repairExpiry n s)) s)

end Sys2Proof.Machine
end

