-- ==== Sys2Proof/Machine/Dispatch.lean ====
section
/-! DEFINITION. The meaning of every command: one arm per constructor of `Instr`. -/

namespace Sys2Proof.Machine

/-- What a command does to the state; the queue is `step`'s. -/
def exec (i : Instr) (s : State) : Host.Outcome State Fault Refusal :=
  match i with
  | .powerOn => Sys2Proof.Machine.execPowerOn s
  | .resetPin => Sys2Proof.Machine.execResetPin s
  | .supplyLow => Sys2Proof.Machine.execSupplyLow s
  | .leaveReset straps => Sys2Proof.Machine.execLeaveReset straps s
  | .setupWindowExpiry => Sys2Proof.Machine.execSetupWindowExpiry s
  | .storeWriteComplete => Sys2Proof.Machine.execStoreWriteComplete s
  | .supplyWarning => Sys2Proof.Machine.execSupplyWarning s
  | .supplyRelease => Sys2Proof.Machine.execSupplyRelease s
  | .inputLevelChange input high => Sys2Proof.Machine.execInputLevelChange input high s
  | .qualificationTimerExpiry input => Sys2Proof.Machine.execQualificationTimerExpiry input s
  | .buttonLevelChange button high => Sys2Proof.Machine.execButtonLevelChange button high s
  | .buttonQualificationExpiry button => Sys2Proof.Machine.execButtonQualificationExpiry button s
  | .listenWindowExpiry => Sys2Proof.Machine.execListenWindowExpiry s
  | .joinWindowExpiry => Sys2Proof.Machine.execJoinWindowExpiry s
  | .isolationHoldExpiry => Sys2Proof.Machine.execIsolationHoldExpiry s
  | .presenceTimerExpiry => Sys2Proof.Machine.execPresenceTimerExpiry s
  | .silenceTimerExpiry station => Sys2Proof.Machine.execSilenceTimerExpiry station s
  | .repairTimerExpiry owner => Sys2Proof.Machine.execRepairTimerExpiry owner s
  | .cadenceTick => Sys2Proof.Machine.execCadenceTick s
  | .outputSenseChange output high => Sys2Proof.Machine.execOutputSenseChange output high s
  | .mismatchTimerExpiry output => Sys2Proof.Machine.execMismatchTimerExpiry output s
  | .agreementTimerExpiry output => Sys2Proof.Machine.execAgreementTimerExpiry output s
  | .attemptStart => Sys2Proof.Machine.execAttemptStart s
  | .arbLost => Sys2Proof.Machine.execArbLost s
  | .collided => Sys2Proof.Machine.execCollided s
  | .frameReceivedCorrupt bytes => Sys2Proof.Machine.execFrameReceivedCorrupt bytes s
  | .objected => Sys2Proof.Machine.execObjected s
  | .reportDelivered source body => Sys2Proof.Machine.execReportDelivered source body s
  | .operatorDelivered source body => Sys2Proof.Machine.execOperatorDelivered source body s
  | .resyncRequestDelivered source owners => Sys2Proof.Machine.execResyncRequestDelivered source owners s
  | .dumpDelivered source body => Sys2Proof.Machine.execDumpDelivered source body s
  | .joinDelivered source body => Sys2Proof.Machine.execJoinDelivered source body s
  | .presenceDelivered source body => Sys2Proof.Machine.execPresenceDelivered source body s
  | .leaveDelivered source cause => Sys2Proof.Machine.execLeaveDelivered source cause s
  | .serviceByteReceived byte => Sys2Proof.Machine.execServiceByteReceived byte s
  | .serviceGapTimerExpiry => Sys2Proof.Machine.execServiceGapTimerExpiry s
  | .serviceFramingFault => Sys2Proof.Machine.execServiceFramingFault s
  | .responseComplete => Sys2Proof.Machine.execResponseComplete s
  | .status body => Sys2Proof.Machine.execStatus body s
  | .readTable body => Sys2Proof.Machine.execReadTable body s
  | .readRoster body => Sys2Proof.Machine.execReadRoster body s
  | .readPoints body => Sys2Proof.Machine.execReadPoints body s
  | .readSetup body => Sys2Proof.Machine.execReadSetup body s
  | .setup body => Sys2Proof.Machine.execSetup body s
  | .interframeGapSensed => Sys2Proof.Machine.execInterframeGapSensed s
  | .unknownRequestKind kind body => Sys2Proof.Machine.execUnknownRequestKind kind body s

end Sys2Proof.Machine
end

