-- ==== Sys2Proof/Safety.lean ====
section
/-! DEFINITION. The laws of the device as predicates on the state: each names the sentence of the spec it follows. -/

namespace Sys2Proof

/-- Whether a payload is a JOIN. -/
def Payload.isJoin : Payload → Bool
  | .join _ => true
  | _ => false

/-- Whether a sequence state stands for an asserted field (R4). -/
def SeqState.asserted : SeqState → Bool
  | .normal => false
  | .alert => true
  | .acked => true
  | .unackCleared => false
  | .ringback => false

end Sys2Proof

namespace Sys2Proof.Machine

/-! ### The Alarm Table (R34, R51, R55, R159) -/

/-- The own entries of a list (R34). -/
def ownOccupancy (me : Option StationNo) (entries : List Entry) : Nat := (entries.filter (fun e => some e.owner == me)).length

/-- R34: at most one entry per condition, at most 17 own entries and at most 111 remote ones. No entry is in NORMAL, by the type of
an entry's state. -/
def tableLaw (me : Option StationNo) (t : AlarmTable) : Prop :=
  (t.entries.map Entry.condition).Nodup ∧ ownOccupancy me t.entries ≤ 17 ∧ occupancy me t.entries ≤ sharedPlaces

/-- R51: a first-out slot is empty or names a condition that has an entry in the table whose group is that slot's group. -/
def slotLaw (t : AlarmTable) : Prop :=
  ∀ g : GroupNo, (t.slots[g]).all (fun c => t.entries.any (fun e => e.condition == c && e.group == g)) = true

/-- R54, R55: OVERFLOW and TABLE_OVERFLOW are set and cleared together, and only with 84 remote entries or more. -/
def overflowLaw (me : Option StationNo) (t : AlarmTable) : Prop :=
  t.overflow = t.tableOverflow ∧ (t.overflow = true → overflowClearsAt < occupancy me t.entries)

/-- R159: the horn latch is set only while an audible entry of the operator scope is in ALERT or UNACK_CLEARED. -/
def hornLaw (s : State) : Prop := s.ann.horn = true → s.table.entries.any (callsHorn s.ann.scope) = true

/-- R35, R158: before the setup takes effect the table is as reset left it and the horn latch is clear. -/
def quietTable (s : State) : Prop := s.active = false → s.table = .atReset ∧ s.ann.horn = false

/-- The laws of the Alarm Table and the horn latch together. -/
def State.tableInv (s : State) : Prop :=
  tableLaw s.me s.table ∧ slotLaw s.table ∧ overflowLaw s.me s.table ∧ hornLaw s ∧ quietTable s

/-- R17: while the blocks run, the level the health cause monitor last took is the OR of the causes. -/
def State.healthInv (s : State) : Prop := s.tableInv ∧ (s.active = true → s.anyCause = s.engine.healthLevel)

/-! ### The Link Controller (R77, R90, R92, R93) -/

/-- R65, R93: each point at most once in the REPORT lane, at most 12 OPERATOR entries, one DUMP mark and two RESYNC_REQUESTs. The
ROLL lane holds at most one frame by its type. -/
def laneLaw (l : Lanes) : Prop :=
  (l.report.map (fun m => m.point)).Nodup ∧ l.operator.length ≤ operatorRoom ∧
    (l.repair.filter RepairEntry.isDump).length ≤ 1 ∧ (l.repair.filter (fun e => !e.isDump)).length ≤ 2

/-- R90: the consecutive-undelivered count stays between 0 and 15. -/
def runLaw (s : State) : Prop := s.link.undeliveredRun < isolationLimit

/-- R92: a frame of this station is on the medium only in JOINING, RUNNING and DEPARTING, and in JOINING before the own JOIN's
delivery it is the JOIN. -/
def sendLaw (s : State) : Prop :=
  ∀ a ∈ s.link.sending,
    s.active = true ∧
      (s.control.station = .running ∨ s.control.station = .departing ∨
        (s.control.station = .joining ∧ (s.link.lanesOpen = true ∨ a.frame.payload.isJoin = true)))

/-- R77: before the setup takes effect the Link Controller is as reset left it. -/
def quietLink (s : State) : Prop := s.active = false → s.link = .atReset

/-- The laws of the Link Controller together. -/
def State.linkInv (s : State) : Prop := laneLaw s.link.lanes ∧ runLaw s ∧ sendLaw s ∧ quietLink s

/-- A state that differs from another in the Link Controller and the read-back records at most: the frame of an attempt's end. -/
def State.sameApartFromLink (s t : State) : Prop :=
  t.control = s.control ∧ t.engine = s.engine ∧ t.monitor = s.monitor ∧ t.table = s.table ∧ t.roster = s.roster ∧
    t.repair = s.repair ∧ t.service = s.service ∧ t.pins = s.pins ∧ t.pending = s.pending ∧
    ({ t.ann with readback := s.ann.readback } : Annunciation) = s.ann

/-- R14, R69, R99: what becomes of lanes `l` that are emptied between two states. Each OPERATOR entry is counted in OPERATOR_DROPPED,
each point with a mark is locally delivered from its present record, and no other entry is touched. Point 16 is left out: the health
cause monitor may change it beside (R17). -/
def State.emptiesLanes (s : State) (l : Lanes) (t : State) : Prop :=
  t.link.sending = none ∧ t.link.undeliveredRun = 0 ∧
    t.ann.operatorDropped = Counter.bumpBy l.operator.length s.ann.operatorDropped ∧
    ∀ n, s.me = some n →
      (∀ p : PointNo, p ≠ 16 →
        ((∃ m ∈ l.report, m.point = p) →
          (entryState? (s.point p).state = none → t.table.find ⟨n, p⟩ = none) ∧
          ∀ st, entryState? (s.point p).state = some st →
            ∃ e, t.table.find ⟨n, p⟩ = some e ∧ e.state = st ∧ e.revision = (s.point p).revision) ∧
        ((∀ m ∈ l.report, m.point ≠ p) → t.table.find ⟨n, p⟩ = s.table.find ⟨n, p⟩)) ∧
      ∀ c : Condition, c.owner ≠ n → t.table.find c = s.table.find c

/-! ### What the station sends (R65, R96, R104, R138) -/

/-- R65: an OPERATOR entry has a target other than this station and 1 or more items, no point twice. -/
def operatorLaw (s : State) : Prop :=
  ∀ e ∈ s.link.lanes.operator,
    s.me ≠ some e.target ∧ e.items ≠ [] ∧ (e.items.map (fun i => i.point)).Nodup

/-- R96: a request entry lists 1 or more owners, none twice and none this station. -/
def requestLaw (s : State) : Prop :=
  ∀ e ∈ s.link.lanes.repair, ∀ owners, e.work = .request owners →
    owners ≠ [] ∧ owners.Nodup ∧ ∀ o ∈ owners, s.me ≠ some o

/-- R138: the record of the station's own number stays NONE. -/
def ownRepairLaw (s : State) : Prop := ∀ n : StationNo, s.me = some n → (s.repairOf n).state = .none

/-- R104: a frame on the medium has this station as its source and breaks no range of R105 to R111. -/
def sentLaw (s : State) : Prop :=
  ∀ a ∈ s.link.sending, s.me = some a.frame.source ∧ a.frame.wellFormed = true

/-- What keeps every sent frame well formed. -/
def State.frameInv (s : State) : Prop :=
  tableLaw s.me s.table ∧ operatorLaw s ∧ requestLaw s ∧ ownRepairLaw s ∧ sentLaw s

/-- The command that delivers a frame (R113). -/
def deliveryOf (f : Frame) : Instr :=
  match f.payload with
  | .report b => .reportDelivered f.source b
  | .operator b => .operatorDelivered f.source b
  | .resyncRequest owners => .resyncRequestDelivered f.source owners
  | .dump b => .dumpDelivered f.source b
  | .join b => .joinDelivered f.source b
  | .presence b => .presenceDelivered f.source b
  | .leave c => .leaveDelivered f.source c

/-- R84: a station that receives: its blocks run, it has sensed a gap, and no frame of its own is on the medium. -/
def State.receives (s : State) : Bool := s.active && s.link.gapSensed && s.link.sending.isNone

/-! ### The Alarm Table after a command (R33, R49, R50) -/

/-- Every entry of an owner with the stale flag as given, in its place and with all its other fields (R46, R49, R50). -/
def staleAs (stale : Bool) (n : StationNo) (entries : List Entry) : List Entry :=
  entries.map (fun e => if e.owner = n then { e with stale := stale } else e)

/-- R124: the roster states from which a frame revives a station. -/
def Membership.unheard : Membership → Bool
  | .absent => true
  | .lost => true
  | .left => true
  | .present => false
  | .self => false

/-- The entries as the Roster's take of a frame from a station leaves them: a revival makes every entry of the station non-stale, and
changes nothing else (R50, R124). -/
def State.heardEntries (s : State) (n : StationNo) : List Entry :=
  if (s.member n).state.unheard then staleAs false n s.table.entries else s.table.entries

/-- The table without an owner's entries and slots (R47, R48): the others stay in order, and where an entry is removed OVERFLOW and
TABLE_OVERFLOW are cleared at a shared occupancy of 83 or less (R55). -/
def State.withoutOwner (s : State) (n : StationNo) : AlarmTable :=
  let left := s.table.entries.filter (fun e => decide (e.owner ≠ n))
  let stays := decide (left = s.table.entries ∨ 84 ≤ occupancy s.me left)
  { s.table with
    entries := left, slots := s.table.slots.map (fun h => if h.any (fun c => c.owner == n) then none else h),
    overflow := s.table.overflow && stays, tableOverflow := s.table.tableOverflow && stays }

/-- Whether a condition is other than the own point 16, whose entry the health cause monitor may change by local delivery (R12, R17). -/
def State.apartFromHealth (s : State) (c : Condition) : Bool := decide (s.me ≠ some c.owner ∨ c.point ≠ 16)

/-- The table after a command is `u`, but for the own point 16: exactly `u` where changes are handed over by REPORT marks or point 16 is
unchanged; elsewhere a local delivery of point 16 may change, create or remove its entry and empty a slot naming it, gives no slot
(R12, R17, R41), and leaves the other entries with their order, the other slots and the overflow state. -/
def State.leavesTable (s : State) (u : AlarmTable) (t : State) : Prop :=
  (s.marks = true ∨ t.point 16 = s.point 16 → t.table = u) ∧
    t.table.entries.filter (fun e => s.apartFromHealth e.condition) = u.entries.filter (fun e => s.apartFromHealth e.condition) ∧
    (∀ (g : GroupNo) (c : Condition), t.table.slots[g] = some c → u.slots[g] = some c) ∧
    (∀ (g : GroupNo) (c : Condition), s.apartFromHealth c = true → u.slots[g] = some c → t.table.slots[g] = some c) ∧
    t.table.dropped = u.dropped ∧
    (overflowLaw s.me s.table → t.table.overflow = u.overflow ∧ t.table.tableOverflow = u.tableOverflow)

/-! ### The Roster (R118) -/

/-- R118: outside reset the entry of the own number is SELF, and no other entry is. -/
def State.selfInv (s : State) : Prop :=
  s.control.inReset = false → ∀ n : StationNo, ((s.member n).state = .self ↔ s.me = some n)

/-- R132: a number leaves the awaited set between two states. A removal that leaves the set empty in JOINING takes the station to
RUNNING, where the set is discarded and the join window stopped (R133); any other changes the set alone. -/
def State.awaitsNoMore (s : State) (n : StationNo) (t : State) : Prop :=
  let last := s.control.station = .joining ∧ n ∈ s.roster.awaited ∧ ∀ m ∈ s.roster.awaited, m = n
  n ∉ t.roster.awaited ∧
    (last → t.control = { s.control with station := .running } ∧ t.roster.awaited = [] ∧ t.roster.joinWindow = .stopped) ∧
    (¬last →
      t.control = s.control ∧ t.roster.awaited = s.roster.awaited.filter (fun m => decide (m ≠ n)) ∧
        t.roster.joinWindow = s.roster.joinWindow)

/-- R142: a station is withdrawn from the REPAIR lane between two states: from every waiting request, and from no element whose attempt
is on the medium. -/
def State.withdraws (s : State) (n : StationNo) (t : State) : Prop :=
  t.link.lanes.repair = withdrawIn (s.onAir .repair) n s.link.lanes.repair ∧
    (s.onAir .repair = false → ∀ e ∈ t.link.lanes.repair, ∀ owners, e.work = .request owners → n ∉ owners)

/-! ### The sequence states (R4) -/

/-- R4: a momentary point is never in ALERT or ACKED, a point of a group without lock-in never in UNACK_CLEARED, and a point of a
group without ringback never in RINGBACK. -/
def sequenceLaw (s : State) : Prop :=
  ∀ p : PointNo,
    ((s.point p).sensitivity = .momentary → (s.point p).state ≠ .alert ∧ (s.point p).state ≠ .acked) ∧
    ((s.groupOptions (s.point p).group).lockIn = false → (s.point p).state ≠ .unackCleared) ∧
    ((s.groupOptions (s.point p).group).ringback = false → (s.point p).state ≠ .ringback)

/-- R10: a disabled point is in NORMAL at revision 0. -/
def disabledLaw (s : State) : Prop :=
  ∀ p : PointNo, (s.point p).enabled = false → (s.point p).state = .normal ∧ (s.point p).revision = 0#8

/-- R4, R24: the qualified level of an enabled maintained input agrees with its point's state. -/
def levelLaw (s : State) : Prop :=
  ∀ i : LineNo, (s.input i).enabled = true → (s.input i).sensitivity = .maintained →
    (s.input i).qualified = (s.point (linePoint i)).state.asserted

/-- R2, R20: an input and the point it serves hold the same enabled and sensitivity values. -/
def configLaw (s : State) : Prop :=
  ∀ i : LineNo,
    (s.input i).enabled = (s.point (linePoint i)).enabled ∧ (s.input i).sensitivity = (s.point (linePoint i)).sensitivity

/-- R2, R172: an enabled momentary point lies in a group with lock-in. -/
def momentaryLaw (s : State) : Prop :=
  ∀ p : PointNo, (s.point p).enabled = true → (s.point p).sensitivity = .momentary →
    (s.groupOptions (s.point p).group).lockIn = true

/-- R2, R18: point 16 is enabled and MAINTAINED, and its state agrees with the level the health cause monitor last took. -/
def healthLaw (s : State) : Prop :=
  (s.point 16).enabled = true ∧ (s.point 16).sensitivity = .maintained ∧
    s.engine.healthLevel = (s.point 16).state.asserted

/-- R173: an image being written has passed validation. -/
def storeLaw (s : State) : Prop := ∀ img ∈ s.control.storeWrite, imageValid img = true

/-- R5, R28, R166: before the setup takes effect the points and the inputs are as reset left them, and outside UNCONFIGURED no setup is
loaded. -/
def quietEngine (s : State) : Prop :=
  s.active = false →
    s.engine = .atReset ∧ s.monitor = .atReset ∧ (s.control.station ≠ .unconfigured → s.control.loaded = none)

/-- The laws of the points together. -/
def State.sequenceInv (s : State) : Prop :=
  sequenceLaw s ∧ disabledLaw s ∧ levelLaw s ∧ configLaw s ∧ momentaryLaw s ∧ healthLaw s ∧ storeLaw s ∧ quietEngine s

end Sys2Proof.Machine
end

