-- ==== Sys2Proof/Certificates/Slice0/Obligations.lean ====
section
/-! DEFINITION. The statements for the provers. Each docstring names the rules the statement follows; OBLIGATIONS.json lists them. -/

open Sys2Proof Sys2Proof.Machine

/-! ### The queue -/

/-- A step runs the command at the front with the queue's rest; with an empty queue the block idles (the model's choice, log 1). -/
def Obligations.StepRunsFrontCommandOrIdles : Prop :=
  (∀ (c : Instr) (q : List Instr) (s : State), step (s.withPending (c :: q)) = exec c (s.withPending q)) ∧
  ∀ s : State, s.pending = [] → step s = .next s

/-- No command stops the part: every command in every state answers a next state with the same queue. The spec gives the effect of an
event that occurs; that an event which cannot occur changes nothing (log 2), that an ill-formed command gets the reading the same rules
give its fields (log 20), and the queue itself (log 1) are the model's choices. -/
def Obligations.EveryCommandAnswersNext : Prop := ∀ (c : Instr) (s : State), ∃ t, exec c s = .next t ∧ t.pending = s.pending

/-! ### Resets and the start (R166 to R175) -/

/-- R166, R169, R173: the three reset commands return every block to its values after reset and keep the store and its status; an
interrupted write leaves each byte old or new. That the restart count still reads as before, at POWER_ON too, is the model's reading
(log 22: R169 sets the record as the part leaves reset, and LEAVE_RESET then sets it afresh); that the pin levels stand is the model's
choice (log 19). -/
def Obligations.ResetCommandsRestoreEveryBlock : Prop :=
  ∀ (c : Instr) (s : State), c = .powerOn ∨ c = .resetPin ∨ c = .supplyLow →
    ∃ t, exec c s = .next t ∧
      t.control.inReset = true ∧ t.control.station = .starting ∧ t.control.reason = .none ∧ t.control.loaded = none ∧
      t.control.setupAccepted = false ∧ t.control.setupWindow = .stopped ∧ t.control.storeWrite = none ∧
      t.control.joinCause = none ∧ t.control.isolationHold = .stopped ∧ t.control.supply = .normal ∧
      t.engine = .atReset ∧ t.monitor = .atReset ∧ t.table = .atReset ∧ t.ann = .atReset ∧ t.link = .atReset ∧
      t.roster = .atReset ∧ t.repair = Vector.replicate 48 .atReset ∧ t.service = .atReset ∧
      t.control.storeStatus = s.control.storeStatus ∧ t.control.restartCount = s.control.restartCount ∧
      t.control.powerLost = (s.control.powerLost || decide (c = .powerOn)) ∧
      t.control.supplyFell = (s.control.supplyFell || decide (c = .supplyLow)) ∧
      (s.control.storeWrite = none → t.control.storeImage = s.control.storeImage) ∧
      (∀ img, s.control.storeWrite = some img → ∀ i : Fin 96,
        t.control.storeImage[i] = s.control.storeImage[i] ∨ t.control.storeImage[i] = img[i]) ∧
      t.pins = s.pins

/-- R1, R8, R20, R30, R33, R51, R59, R77, R118, R152, R158, R166, R182: what the machine right after reset reads. -/
def Obligations.ResetStateReads : Prop :=
  (∀ p : PointNo, (State.reset.point p).state = .normal ∧ (State.reset.point p).revision = 0#8 ∧
    (State.reset.point p).group = 0 ∧ (State.reset.point p).sensitivity = .maintained ∧
    ((State.reset.point p).enabled = true ↔ p = 16) ∧ State.reset.reportMark p = .none) ∧
  (∀ i : LineNo, (State.reset.input i).enabled = false ∧ (State.reset.input i).polarity = .assertHigh ∧
    (State.reset.input i).sensitivity = .maintained ∧ (State.reset.input i).time = .ms10 ∧
    (State.reset.input i).qualified = false ∧ (State.reset.input i).rearm = true ∧ (State.reset.input i).timer = .stopped) ∧
  (∀ k : Button, State.reset.button k = { pressed := false, timer := .stopped }) ∧
  (∀ g : GroupNo, State.reset.table.slots[g] = none) ∧
  (∀ n : StationNo, State.reset.member n =
    { state := .absent, restartCount := none, joinCause := none, interval := .ms1000, silence := .stopped }) ∧
  (∀ n : StationNo, State.reset.repairOf n = { state := .none, attempts := 0, timer := .stopped }) ∧
  (∀ k : LineNo, State.reset.readbackOf k = { fault := none, mismatch := .stopped, agreement := .stopped }) ∧
  (∀ i : Fin 96, State.reset.control.storeImage[i] = 0xFF#8) ∧
  State.reset.control.storeStatus = .blank ∧ State.reset.table.entries = [] ∧ State.reset.table.overflow = false ∧
  State.reset.table.tableOverflow = false ∧ State.reset.ann.horn = false ∧ State.reset.ann.test = false ∧
  State.reset.ann.scope = 0#8 ∧ State.reset.ann.phase = 0 ∧ State.reset.link.lanes = .empty ∧
  State.reset.link.undeliveredRun = 0 ∧ State.reset.link.degraded = false ∧ State.reset.service.rx = none ∧
  State.reset.service.response = none ∧ State.reset.service.answerOwed = false ∧ State.reset.pending = [] ∧
  [State.reset.engine.itemsRefused, State.reset.table.dropped, State.reset.ann.operatorDropped, State.reset.link.delivered,
    State.reset.link.objected, State.reset.link.collided, State.reset.link.arbLost, State.reset.link.undelivered,
    State.reset.link.receivedGood, State.reset.link.receivedBad, State.reset.service.errors] = List.replicate 11 0#16

/-- R118, R169, R170, R171: leaving reset sets the restart record by what happened, reads the straps, gives the own entry SELF and
opens the setup window. -/
def Obligations.LeavingResetSetsRecordAndStraps : Prop :=
  ∀ (straps : BitVec 6) (s : State), s.control.inReset = true →
    ∃ t, exec (.leaveReset straps) s = .next t ∧ t.control.inReset = false ∧ t.control.station = .setupWait ∧
      t.control.number = straps ∧ t.control.setupWindow = .running 3000 0 ∧
      (s.control.powerLost = true → t.control.resetCause = .powerOn ∧ t.control.restartCount = 0#8) ∧
      (s.control.powerLost = false → s.control.supplyFell = true →
        t.control.resetCause = .supplyLow ∧ t.control.restartCount = s.control.restartCount + 1#8) ∧
      (s.control.powerLost = false → s.control.supplyFell = false →
        t.control.resetCause = .resetPin ∧ t.control.restartCount = s.control.restartCount + 1#8) ∧
      (∀ n : StationNo, (t.member n).state = if straps.toNat = n.number then .self else .absent) ∧
      t.control.storeImage = s.control.storeImage ∧ t.control.storeStatus = s.control.storeStatus

/-- R169: while in reset the part takes no event but those that begin and end a reset; the pins follow the outside (log 19). -/
def Obligations.PartInResetTakesNoEvent : Prop :=
  ∀ (c : Instr) (s : State), s.control.inReset = true → c ≠ .powerOn → c ≠ .resetPin → c ≠ .supplyLow →
    (∀ straps, c ≠ .leaveReset straps) → ∃ t, exec c s = .next t ∧ t.withPins s.pins = s

/-- R174, with R178 at the entry into LISTENING: what the setup window's expiry finds in SETUP_WAIT. -/
def Obligations.WindowExpiryExaminesStore : Prop :=
  ∀ s : State, s.control.inReset = false → s.control.station = .setupWait → s.control.setupWindow.isRunning = true →
    ∃ t, exec .setupWindowExpiry s = .next t ∧
      (s.control.storeStatus = .blank → t.control.station = .unconfigured ∧ t.control.reason = .storeBlank) ∧
      (s.control.storeStatus = .corrupt ∨ (s.control.storeStatus = .valid ∧ imageValid s.control.storeImage = false) →
        t.control.station = .unconfigured ∧ t.control.reason = .storeCorrupt) ∧
      (s.control.storeStatus = .valid → imageValid s.control.storeImage = true → s.me = none →
        t.control.station = .unconfigured ∧ t.control.reason = .strapInvalid) ∧
      (s.control.storeStatus = .valid → imageValid s.control.storeImage = true → s.me ≠ none →
        t.control.loaded = some s.control.storeImage ∧
        t.control.station = if s.control.supply = .low then .departed else .listening) ∧
      t.control.storeImage = s.control.storeImage ∧ t.control.storeStatus = s.control.storeStatus

/-- R2, R20, R27, R31, R59, R117, R120, R129, R151, R175: every block takes its configuration as the setup takes effect at the entry
into LISTENING, by the window's expiry or by the completed write; and where among the 96 bytes of an image each value lies. -/
def Obligations.SetupTakesEffectInEveryBlock : Prop :=
  (∀ (c : Instr) (s : State) (img : Image), s.control.inReset = false → s.me ≠ none → s.control.supply = .normal →
    (c = .setupWindowExpiry ∧ s.control.station = .setupWait ∧ s.control.setupWindow.isRunning = true ∧
        s.control.storeStatus = .valid ∧ s.control.storeImage = img ∧ imageValid img = true) ∨
      (c = .storeWriteComplete ∧ s.control.station = .storing ∧ s.control.storeWrite = some img) →
    ∃ t, exec c s = .next t ∧ t.control.station = .listening ∧ t.control.loaded = some img ∧
      (∀ n : LineNo, (t.point (linePoint n)).enabled = imageEnabled img n ∧
        (t.point (linePoint n)).group = groupOf (imagePointGroup img n) ∧
        (t.point (linePoint n)).sensitivity = imageSensitivity img n ∧
        t.input n =
          { enabled := imageEnabled img n, polarity := imagePolarity img n, sensitivity := imageSensitivity img n,
            time := qualOf (imagePointByte img n), qualified := false, rearm := true,
            timer :=
              if sensedThrough (imagePolarity img n) s.pins.inputs[n] = true then
                .running (qualMs (qualOf (imagePointByte img n))) 0
              else .stopped } ∧
        t.ann.outputs[n] = imageOutput img n) ∧
      (∀ k : Button, t.button k = { pressed := false, timer := if s.pins.buttons.get k = true then .stopped else .running 20 0 }) ∧
      (t.point 16).enabled = true ∧ (t.point 16).group = imageHealthGroup img ∧ (t.point 16).sensitivity = .maintained ∧
      (∀ g : GroupNo, t.groupOptions g = imageGroup img g) ∧
      t.ann.scope = imageScope img ∧ t.roster.lossWindow = imageLossWindow img ∧
      t.roster.listenWindow = .running (imageLossWindow img * 1000) 0 ∧
      (∀ n, s.me = some n → (t.member n).interval = imageInterval img)) ∧
  ∀ img : Image,
    (img[2].toNat ≤ 3 → intervalMs (imageInterval img) = [100, 250, 500, 1000].getD img[2].toNat 0) ∧
    (img[3].toNat ≤ 1 → imageLossWindow img = if img[3].toNat = 0 then 3 else 8) ∧
    imageScope img = img[4] ∧ (img[5].toNat ≤ 7 → (imageHealthGroup img).val = img[5].toNat) ∧
    (∀ g : GroupNo, imageGroup img g =
      { lockIn := (img[6 + g.val]).getLsbD 0, ringback := (img[6 + g.val]).getLsbD 1,
        firstOut := (img[6 + g.val]).getLsbD 2, audible := (img[6 + g.val]).getLsbD 3 }) ∧
    (∀ n : LineNo, imageEnabled img n = (img[14 + 2 * n.val]).getLsbD 0 ∧
      imagePolarity img n = (if (img[14 + 2 * n.val]).getLsbD 1 = true then .assertLow else .assertHigh) ∧
      imageSensitivity img n = (if (img[14 + 2 * n.val]).getLsbD 2 = true then .momentary else .maintained) ∧
      qualMs (qualOf (imagePointByte img n)) = [10, 50, 200, 1000].getD ((img[14 + 2 * n.val]).toNat / 8 % 4) 0 ∧
      ((img[15 + 2 * n.val]).toNat ≤ 7 → (groupOf (imagePointGroup img n)).val = (img[15 + 2 * n.val]).toNat)) ∧
    ∀ k : LineNo, (imageOutput img k).activeLow = (img[46 + 3 * k.val]).getLsbD 7 ∧
      let kind := (img[46 + 3 * k.val]).toNat % 16
      let source := (imageOutput img k).source
      (kind = 0 → source = .none) ∧
      (∀ (o : StationNo) (p : PointNo), kind = 1 → (img[47 + 3 * k.val]).toNat = o.number →
        (img[48 + 3 * k.val]).toNat = p.val → source = .condition o p) ∧
      (∀ g : GroupNo, kind = 2 → (img[47 + 3 * k.val]).toNat = g.val → source = .group g) ∧
      (kind = 3 → source = .horn) ∧ (kind = 4 → source = .stationLost) ∧ (kind = 5 → source = .linkFault) ∧
      (kind = 6 → source = .overflow) ∧ (kind = 7 → source = .health)

/-- R173, R187: the completed write, the station's next state, and the owed OK. -/
def Obligations.StoreWriteCompletionLoadsSetup : Prop :=
  ∀ (s : State) (img : Image), s.control.inReset = false → s.control.station = .storing →
    s.control.storeWrite = some img →
    ∃ t, exec .storeWriteComplete s = .next t ∧
      t.control.storeImage = img ∧ t.control.storeStatus = .valid ∧ t.control.storeWrite = none ∧
      t.control.loaded = some img ∧
      (s.me = none → t.control.station = .unconfigured ∧ t.control.reason = .strapInvalid) ∧
      (s.me ≠ none → t.control.station = if s.control.supply = .low then .departed else .listening) ∧
      (s.service.answerOwed = true → s.service.response = none → s.service.rx = none →
        t.service.response = some [6#8, 0#8, 0#8, 0#8, 0xFA#8] ∧ t.service.answerOwed = false) ∧
      (s.service.answerOwed = true → (s.service.response ≠ none ∨ s.service.rx ≠ none) → t.service = s.service)

/-- R97, R99, R134, R150, R167, R177 to R180: the supply warning and the supply release in every station state. At the entry into
DEPARTING from RUNNING or JOINING the LEAVE is owed exactly behind a PRESENCE whose attempt is on the medium, and takes the slot
otherwise; at the entry into DEPARTED the lanes are emptied. A mark of point 16 may join the REPORT lane, by a cause that clears
(R17). -/
def Obligations.SupplyMonitorMovesTheStation : Prop :=
  (∀ s : State, s.control.inReset = false → s.control.supply = .normal →
    ∃ t, exec .supplyWarning s = .next t ∧ t.control.supply = .low ∧
      (t.control.station =
        match s.control.station with
        | .listening => .departed
        | .joining => if s.link.lanesOpen then .departing else .departed
        | .running => .departing
        | .isolated => .departed
        | other => other) ∧
      (s.control.station = .running → ∀ n : StationNo, t.repairOf n = .atReset) ∧
      (s.control.station = .joining → t.roster.awaited = [] ∧ t.roster.joinWindow = .stopped) ∧
      (s.control.station = .running ∨ (s.control.station = .joining ∧ s.link.lanesOpen = true) →
        let behind :=
          ∃ a f, s.link.sending = some a ∧ a.lane = .roll ∧ s.link.lanes.roll = some f ∧ f.kind = .presence
        (behind → t.link.lanes.leaveOwed = true ∧ t.link.lanes.roll = s.link.lanes.roll) ∧
        (¬behind →
          t.link.lanes.leaveOwed = s.link.lanes.leaveOwed ∧
          t.link.lanes.roll = some { kind := .leave, attempt := 0, failed := 0 }) ∧
        t.link.lanes.operator = s.link.lanes.operator ∧ t.link.lanes.repair = s.link.lanes.repair ∧
        t.link.lanes.report.filter (fun m => decide (m.point ≠ 16)) =
          s.link.lanes.report.filter (fun m => decide (m.point ≠ 16)) ∧
        t.link.sending = s.link.sending ∧ t.roster.presence = s.roster.presence) ∧
      (s.control.station = .listening ∨ s.control.station = .isolated ∨
          (s.control.station = .joining ∧ s.link.lanesOpen = false) →
        t.link.lanes = .empty ∧ t.roster.presence = .stopped ∧ s.emptiesLanes s.link.lanes t)) ∧
  ∀ s : State, s.control.inReset = false → s.control.supply = .low →
    ∃ t, exec .supplyRelease s = .next t ∧ t.control.supply = .normal ∧
      t.control.restartCount = s.control.restartCount ∧
      (s.control.station ≠ .departed → t.control.station = s.control.station) ∧
      (s.control.station = .departed →
        t.control.station = .joining ∧ t.control.joinCause = some .supplyRecovered ∧
        t.link.lanes.roll = some (freshRoll .join))

/-! ### The field lines (R21 to R32) -/

/-- R21, R22, R30: a pin that changes starts or stops its own qualification timer and touches nothing else but the pin. -/
def Obligations.LineChangeMovesItsTimer : Prop :=
  (∀ (i : LineNo) (high : Bool) (s : State), s.active = true → s.pins.inputs[i] ≠ high →
    ∃ t, exec (.inputLevelChange i high) s = .next t ∧ t.pins.inputs[i] = high ∧
      t.input i =
        { s.input i with
          timer :=
            if sensedThrough (s.input i).polarity high = (s.input i).qualified then .stopped
            else .running (qualMs (s.input i).time) 0 } ∧
      (∀ j : LineNo, j ≠ i → t.input j = s.input j ∧ t.pins.inputs[j] = s.pins.inputs[j]) ∧
      t.monitor.buttons = s.monitor.buttons ∧ (t.withPins s.pins).withMonitor s.monitor = s) ∧
  ∀ (k : Button) (high : Bool) (s : State), s.active = true → s.pins.buttons.get k ≠ high →
    ∃ t, exec (.buttonLevelChange k high) s = .next t ∧ t.pins.buttons.get k = high ∧
      t.button k =
        { s.button k with timer := if (!high) = (s.button k).pressed then .stopped else .running 20 0 } ∧
      (∀ j : Button, j ≠ k → t.button j = s.button j ∧ t.pins.buttons.get j = s.pins.buttons.get j) ∧
      t.monitor.inputs = s.monitor.inputs ∧ (t.withPins s.pins).withMonitor s.monitor = s

/-- R24, R25, R26: the event an input raises as its qualified level takes a level, and its re-arm flag after. -/
def Obligations.InputEventsFollowSensitivity : Prop :=
  ∀ (r : InputRecord) (level : Bool),
    (r.enabled = false → r.event level = none) ∧ (level = r.qualified → r.event level = none) ∧
    (r.enabled = true → r.sensitivity = .maintained → r.qualified = false → r.event true = some .assert) ∧
    (r.enabled = true → r.sensitivity = .maintained → r.qualified = true → r.event false = some .clear) ∧
    (r.enabled = true → r.sensitivity = .momentary → r.qualified = false →
      r.event true = if r.rearm then some .capture else none) ∧
    (r.sensitivity = .momentary → r.event false = none) ∧
    (r.sensitivity = .momentary → level ≠ r.qualified → (r.qualify level).rearm = !level) ∧
    (r.sensitivity = .maintained → (r.qualify level).rearm = r.rearm)

/-- R22, R29: at the expiry the qualified level takes the sensed level, and the engine takes the event the input raises; every other
input, and every other point of a line, stays as it is. -/
def Obligations.QualificationExpiryRaisesEvent : Prop :=
  ∀ (i : LineNo) (s : State), s.active = true → (s.input i).timer.isRunning = true →
    ∃ t, exec (.qualificationTimerExpiry i) s = .next t ∧
      t.input i = (s.input i).qualify (s.sensedInput i) ∧
      (t.input i).qualified = s.sensedInput i ∧ (t.input i).timer = .stopped ∧
      (∀ j : LineNo, j ≠ i → t.input j = s.input j) ∧
      (∀ ev st, (s.input i).event (s.sensedInput i) = some ev → (s.point (linePoint i)).enabled = true →
        fieldMove (s.groupOptions (s.point (linePoint i)).group) (s.point (linePoint i)).state ev = some st →
        t.point (linePoint i) =
          { s.point (linePoint i) with state := st, revision := (s.point (linePoint i)).revision + 1#8 }) ∧
      ((s.input i).event (s.sensedInput i) = none ∨ (s.point (linePoint i)).enabled = false ∨
          (∃ ev, (s.input i).event (s.sensedInput i) = some ev ∧
            fieldMove (s.groupOptions (s.point (linePoint i)).group) (s.point (linePoint i)).state ev = none) →
        t.point (linePoint i) = s.point (linePoint i)) ∧
      (∀ j : LineNo, j ≠ i → t.point (linePoint j) = s.point (linePoint j)) ∧
      t.control = s.control ∧ t.roster = s.roster ∧ t.service = s.service ∧ t.pins = s.pins ∧
      t.monitor.buttons = s.monitor.buttons

/-- R6, R7, R11: the transition table of the field events, written out; a maintained input raises FIELD_ASSERT and FIELD_CLEAR alone,
and a momentary one FIELD_CAPTURE alone. -/
def Obligations.FieldEventsFollowTheTable : Prop :=
  (∀ (p : PointNo) (ev : FieldEvent) (s : State), s.active = true → (s.point p).enabled = true →
    let after : Option SeqState :=
      match (s.point p).state, ev with
      | .normal, .assert => some .alert
      | .unackCleared, .assert => some .alert
      | .ringback, .assert => some .alert
      | .alert, .clear =>
        if (s.groupOptions (s.point p).group).lockIn then some .unackCleared else some .normal
      | .acked, .clear =>
        if (s.groupOptions (s.point p).group).ringback then some .ringback else some .normal
      | .normal, .capture => some .unackCleared
      | .unackCleared, .capture => some .unackCleared
      | .ringback, .capture => some .unackCleared
      | _, _ => none
    (∀ st, after = some st →
      fieldEvent p ev s = changePoint p st s ∧
      (fieldEvent p ev s).point p = { s.point p with state := st, revision := (s.point p).revision + 1#8 }) ∧
    (after = none → fieldEvent p ev s = s) ∧
    ∀ q : PointNo, q ≠ p → (fieldEvent p ev s).point q = s.point q) ∧
  ∀ (r : InputRecord) (level : Bool) (ev : FieldEvent), r.event level = some ev →
    (r.sensitivity = .maintained → ev = .assert ∨ ev = .clear) ∧ (r.sensitivity = .momentary → ev = .capture)

/-- R8, R11: the item table, written out; a refused item is counted and leaves the record as it was; the counter stops at 65535, reads 0
after every reset and is returned by STATUS. -/
def Obligations.ItemsFollowTheTable : Prop :=
  (∀ (a : Action) (i : Item) (s : State),
    let r := s.point i.point
    let after : Option SeqState :=
      if r.revision ≠ i.revision then none
      else
        match r.state, a with
        | .alert, .ack => some .acked
        | .unackCleared, .ack => if (s.groupOptions r.group).ringback then some .ringback else some .normal
        | .ringback, .restore => some .normal
        | _, _ => none
    (∀ st, after = some st →
      takeItem a s i = changePoint i.point st s ∧
      (takeItem a s i).point i.point = { r with state := st, revision := r.revision + 1#8 } ∧
      (takeItem a s i).engine.itemsRefused = s.engine.itemsRefused) ∧
    (after = none →
      (takeItem a s i).engine = { s.engine with itemsRefused := s.engine.itemsRefused.bump } ∧
      (takeItem a s i).withEngine s.engine = s) ∧
    ∀ q : PointNo, q ≠ i.point → (takeItem a s i).point q = s.point q) ∧
  (∀ c : Counter, c.bump = if c = 65535#16 then c else c + 1#16) ∧
  (∀ (c : Instr) (s t : State), c = .powerOn ∨ c = .resetPin ∨ c = .supplyLow → exec c s = .next t →
    t.engine.itemsRefused = 0#16) ∧
  ∀ s : State,
    (s.statusPayload.drop 24).take 2 = [highByte s.engine.itemsRefused, lowByte s.engine.itemsRefused]

/-- R12, R15, R41, R94: a change is handed over by a REPORT mark in the states that mark, and otherwise by local delivery, which gives no
first-out slot. A point without a mark is appended fresh at the tail; a pending mark keeps its place, its attempts and its flag; the
head whose attempt is on the medium is flagged again in place. -/
def Obligations.ChangesAreHandedOver : Prop :=
  ∀ (p : PointNo) (st : SeqState) (s : State) (n : StationNo), s.me = some n →
    (s.marks = true →
      (changePoint p st s).table = s.table ∧ (changePoint p st s).reportMark p ≠ .none ∧
      ((∀ m ∈ s.link.lanes.report, m.point ≠ p) →
        (changePoint p st s).link =
            { s.link with
              lanes :=
                { s.link.lanes with
                  report := s.link.lanes.report ++ [{ point := p, again := false, attempt := 0, failed := 0 }] } } ∧
          (changePoint p st s).reportMark p = .pending) ∧
      (∀ a m rest, s.link.sending = some a → a.lane = .report → s.link.lanes.report = m :: rest → m.point = p →
        (changePoint p st s).link =
            { s.link with lanes := { s.link.lanes with report := { m with again := true } :: rest } } ∧
          (changePoint p st s).reportMark p = .pendingAgain) ∧
      ((∃ m ∈ s.link.lanes.report, m.point = p) →
        (¬∃ a m rest, s.link.sending = some a ∧ a.lane = .report ∧ s.link.lanes.report = m :: rest ∧ m.point = p) →
        (changePoint p st s).link = s.link ∧ (changePoint p st s).reportMark p = s.reportMark p)) ∧
    (s.marks = false →
      (changePoint p st s).link = s.link ∧
      (∀ (g : GroupNo) (c : Condition), (changePoint p st s).table.slots[g] = some c → s.table.slots[g] = some c) ∧
      (st = .normal → (changePoint p st s).table.find ⟨n, p⟩ = none) ∧
      (∀ est, entryState? st = some est →
        ∃ e, (changePoint p st s).table.find ⟨n, p⟩ = some e ∧ e.state = est ∧
          e.revision = (s.point p).revision + 1#8))

/-! ### The operator (R59 to R75) -/

/-- R30, R32, R74, R75: a SILENCE press clears the horn latch, TEST holds its state, and a release of ACK, RESTORE or SILENCE raises no
event; none of them touches table, points, lanes or roster. -/
def Obligations.SilenceTestAndReleasesActOnThePanelAlone : Prop :=
  ∀ (k : Button) (s : State), s.active = true → s.anyCause = s.engine.healthLevel → (s.button k).timer.isRunning = true →
    (k = .silence ∨ k = .test ∨ s.sensedButton k = false) →
    ∃ t, exec (.buttonQualificationExpiry k) s = .next t ∧
      t.button k = { pressed := s.sensedButton k, timer := .stopped } ∧
      t.ann.horn = (if k = .silence ∧ s.sensedButton k = true ∧ (s.button k).pressed = false then false else s.ann.horn) ∧
      t.ann.test = (if k = .test then (if s.sensedButton k = (s.button k).pressed then s.ann.test else s.sensedButton k)
        else s.ann.test) ∧
      t.table = s.table ∧ t.engine = s.engine ∧ t.link = s.link ∧ t.roster = s.roster ∧ t.repair = s.repair ∧
      t.control = s.control ∧ t.service = s.service ∧ t.pins = s.pins ∧ t.monitor.inputs = s.monitor.inputs ∧
      t.ann.phase = s.ann.phase ∧ t.ann.scope = s.ann.scope ∧ t.ann.operatorDropped = s.ann.operatorDropped

/-- R60 to R64, R68: an ACK or RESTORE press takes its snapshot, hands its own items to the engine and places the owner groups in
their order, or drops them; an ACK press clears the horn latch and a RESTORE press leaves it. -/
def Obligations.PressTakesSnapshot : Prop :=
  ∀ (k : Button) (a : Action) (s : State) (n : StationNo), (k = .ack ∧ a = .ack) ∨ (k = .restore ∧ a = .restore) →
    s.active = true → s.me = some n → s.anyCause = s.engine.healthLevel →
    overflowLaw s.me s.table → (s.button k).timer.isRunning = true → s.sensedButton k = true →
    (s.button k).pressed = false →
    ∃ t, exec (.buttonQualificationExpiry k) s = .next t ∧ (k = .ack → t.ann.horn = false) ∧
      (k = .restore → s.marks = true ∨ (tableLaw s.me s.table ∧ hornLaw s) → t.ann.horn = s.ann.horn) ∧
      t.button k = { pressed := true, timer := .stopped } ∧
      (∀ e, e ∈ snapshot s.ann.scope a s.table ↔
        e ∈ s.table.entries ∧ s.ann.scope.getLsbD e.group.val = true ∧ e.stale = false ∧
          ((a = .ack ∧ (e.state = .alert ∨ e.state = .unackCleared)) ∨ (a = .restore ∧ e.state = .ringback))) ∧
      t.engine = (takeItems a (itemsFor n (snapshot s.ann.scope a s.table)) s).engine ∧
      (s.control.station.silent = false →
        let placed :=
          (remoteOwners s.me (snapshot s.ann.scope a s.table)).foldl (placeGroup a (snapshot s.ann.scope a s.table)) s
        t.link.lanes.operator = placed.link.lanes.operator ∧ t.ann.operatorDropped = placed.ann.operatorDropped) ∧
      (s.control.station.silent = true →
        t.link.lanes.operator = s.link.lanes.operator ∧
        t.ann.operatorDropped =
          Counter.bumpBy (remoteOwners s.me (snapshot s.ann.scope a s.table)).length s.ann.operatorDropped) ∧
      (∀ st : StationState, st.silent = true ↔ st = .isolated ∨ st = .departed ∨ st = .halted) ∧
      t.control = s.control ∧ t.roster = s.roster ∧ t.service = s.service ∧ t.pins = s.pins

/-- R61, R66, R67: the items of an owner keep snapshot order and the owners their first items' order; an owner group merges into the
entry that can take it, or joins the tail, or is dropped and counted. -/
def Obligations.OwnerGroupsMergeOrJoin : Prop :=
  (∀ (o : StationNo) (snap : List Entry), itemsFor o snap =
    (snap.filter (fun e => decide (e.owner = o))).map (fun e => { point := e.point, revision := e.revision })) ∧
  (∀ me : Option StationNo, remoteOwners me [] = []) ∧
  (∀ (me : Option StationNo) (snap : List Entry) (e : Entry),
    (me = some e.owner ∨ e.owner ∈ remoteOwners me snap → remoteOwners me (snap ++ [e]) = remoteOwners me snap) ∧
    (me ≠ some e.owner → e.owner ∉ remoteOwners me snap →
      remoteOwners me (snap ++ [e]) = remoteOwners me snap ++ [e.owner])) ∧
  (∀ (items : List Item) (i : Item),
    (i.point ∈ items.map (fun x => x.point) →
      mergeItem items i = items.map (fun x => if x.point = i.point then i else x)) ∧
    (i.point ∉ items.map (fun x => x.point) → mergeItem items i = items ++ [i])) ∧
  ∀ (a : Action) (snap : List Entry) (s : State) (o : StationNo),
    (∀ pre e post, s.link.lanes.operator = pre ++ e :: post → pre.any (mergeable o a) = false → mergeable o a e = true →
      (placeGroup a snap s o).link.lanes.operator =
        pre ++ { e with items := (itemsFor o snap).foldl mergeItem e.items } :: post) ∧
    (∀ e : OperatorEntry, mergeable o a e = true ↔ e.target = o ∧ e.action = a ∧ e.inTransmission = false) ∧
    (s.link.lanes.operator.any (mergeable o a) = true →
      (placeGroup a snap s o).link.lanes.operator.map (fun e => (e.target, e.action, e.inTransmission)) =
        s.link.lanes.operator.map (fun e => (e.target, e.action, e.inTransmission)) ∧
      (((itemsFor o snap).map (fun i => i.point)).Nodup →
        ∀ i ∈ itemsFor o snap, ∃ e ∈ (placeGroup a snap s o).link.lanes.operator, mergeable o a e = true ∧ i ∈ e.items)) ∧
    (s.link.lanes.operator.any (mergeable o a) = false → s.link.lanes.operator.length < 12 →
      (placeGroup a snap s o).link.lanes.operator =
        s.link.lanes.operator ++
          [{ target := o, action := a, items := itemsFor o snap, inTransmission := false, attempt := 0, failed := 0 }]) ∧
    (s.link.lanes.operator.any (mergeable o a) = false → 12 ≤ s.link.lanes.operator.length →
      (placeGroup a snap s o).link = s.link ∧
      (placeGroup a snap s o).ann.operatorDropped = s.ann.operatorDropped.bump) ∧
    (placeGroup a snap s o).table = s.table ∧ (placeGroup a snap s o).engine = s.engine ∧
    (placeGroup a snap s o).ann.horn = s.ann.horn

/-! ### Windows and timers (R122, R129 to R135, R145, R181) -/

/-- R109, R129, R130, R178, R181: the listen window and the isolation hold end in JOINING, or in DEPARTED on a LOW supply. -/
def Obligations.ListenAndHoldExpiriesJoin : Prop :=
  (∀ s : State, s.active = true → s.control.station = .listening → s.roster.listenWindow.isRunning = true →
    ∃ t, exec .listenWindowExpiry s = .next t ∧ t.roster.listenWindow = .stopped ∧
      t.control.joinCause = some (joinCauseOfReset s.control.resetCause) ∧
      (s.control.supply = .normal →
        t.control.station = .joining ∧ t.link.lanes.roll = some (freshRoll .join) ∧ t.link.lanesOpen = false ∧
        t.roster.awaited = [] ∧ t.roster.joinWindow = .stopped ∧ t.roster.presence = .stopped) ∧
      (s.control.supply = .low → t.control.station = .departed ∧ t.link.lanes = .empty)) ∧
  ∀ s : State, s.active = true → s.control.station = .isolated → s.control.isolationHold.isRunning = true →
    ∃ t, exec .isolationHoldExpiry s = .next t ∧ t.control.isolationHold = .stopped ∧
      t.control.joinCause = some .isolation ∧ t.control.restartCount = s.control.restartCount ∧
      (s.control.supply = .normal →
        t.control.station = .joining ∧ t.link.lanes.roll = some (freshRoll .join) ∧ t.link.lanesOpen = false) ∧
      (s.control.supply = .low → t.control.station = .departed ∧ t.link.lanes = .empty)

/-- R53, R97, R133, R135: the join window's expiry in JOINING enters RUNNING, discards the awaited set and gives no slot; at each
expiry the presence timer starts its next interval and the ROLL slot takes a PRESENCE if it is empty. -/
def Obligations.JoinWindowRunsAndPresenceRecurs : Prop :=
  (∀ s : State, s.active = true → s.control.station = .joining → s.roster.joinWindow.isRunning = true →
    ∃ t, exec .joinWindowExpiry s = .next t ∧ t.control = { s.control with station := .running } ∧
      t.roster = { s.roster with awaited := [], joinWindow := .stopped } ∧ t.table = s.table ∧
      t.monitor = s.monitor ∧ t.service = s.service ∧ t.pins = s.pins) ∧
  ∀ s : State, s.active = true → s.roster.presence.isRunning = true →
    ∃ t, exec .presenceTimerExpiry s = .next t ∧
      t.roster = { s.roster with presence := .running (intervalMs s.ownInterval) 0 } ∧
      t.link.lanes =
        { s.link.lanes with
          roll := match s.link.lanes.roll with
            | none => some (freshRoll .presence)
            | some f => some f } ∧
      (t.withRoster s.roster).withLanes s.link.lanes = s

/-- R49, R122, R132, R142, R147: a silence timer that runs out makes the entry LOST, its table entries stale and its repair NONE, and
withdraws it from the waiting requests and from the awaited set, which, emptied by it in JOINING, takes the station to RUNNING. The
table keeps every entry in its place with all its other fields, and every slot; but for the own point 16, which may be locally
delivered beside (R12, R17). -/
def Obligations.SilenceExpiryMarksLost : Prop :=
  ∀ (n : StationNo) (s : State), s.active = true → s.me ≠ some n → (s.member n).state = .present →
    (s.member n).silence.isRunning = true →
    ∃ t, exec (.silenceTimerExpiry n) s = .next t ∧
      t.member n = { s.member n with state := .lost, silence := .stopped } ∧
      (∀ m : StationNo, m ≠ n → t.member m = s.member m) ∧
      s.leavesTable { s.table with entries := staleAs true n s.table.entries } t ∧ t.repairOf n = .atReset ∧ s.withdraws n t ∧
      s.awaitsNoMore n t ∧ t.monitor = s.monitor ∧ t.service = s.service ∧ t.pins = s.pins

/-- R142, R145, R146: the first two expiries of a repair timer request the owner again, and the third makes the record FAILED. -/
def Obligations.RepairExpiryRequestsOrFails : Prop :=
  ∀ (n : StationNo) (s : State), s.active = true → (s.repairOf n).state = .requested →
    (s.repairOf n).timer.isRunning = true →
    ∃ t, exec (.repairTimerExpiry n) s = .next t ∧
      ((s.repairOf n).attempts < 3 →
        t.repairOf n =
          { state := .requested, attempts := (s.repairOf n).attempts + 1,
            timer := .running (2 * intervalMs (s.member n).interval) 0 } ∧
        (s.control.station = .running → laneLaw s.link.lanes →
          ∃ e ∈ t.link.lanes.repair, ∃ owners, e.work = .request owners ∧ n ∈ owners)) ∧
      (3 ≤ (s.repairOf n).attempts →
        t.repairOf n = { state := .failed, attempts := 3, timer := .stopped } ∧ t.repairFailed = true) ∧
      (∀ m : StationNo, m ≠ n → t.repairOf m = s.repairOf m) ∧
      t.control = s.control ∧ t.roster = s.roster ∧ t.monitor = s.monitor ∧ t.service = s.service ∧ t.pins = s.pins

/-! ### Lamps (R152 to R165) -/

/-- R152: in each millisecond the phase advances by 1 and passes from 1999 to 0 while the setup is in effect; the tick also advances the
running timers, which is the model's choice (log 4). -/
def Obligations.CadenceTickAdvancesThePhase : Prop :=
  ∀ s : State, s.control.inReset = false →
    ∃ t, exec .cadenceTick s = .next t ∧
      (s.active = true → t.ann.phase.val = if s.ann.phase.val = 1999 then 0 else s.ann.phase.val + 1) ∧
      (s.active = false → t.ann.phase = s.ann.phase) ∧
      (∀ i : LineNo, (t.input i).timer = (s.input i).timer.tick) ∧
      t.engine = s.engine ∧ t.table = s.table ∧ t.link = s.link ∧ t.pins = s.pins ∧
      t.control.station = s.control.station ∧ t.ann.horn = s.ann.horn ∧ t.ann.test = s.ann.test

/-- R162, R163: a sense line that changes begins or ends a mismatch of its own output, and touches nothing outside the read-back. A
faulted output's agreement timer starts, pauses or is discarded; a line that follows a driven level that moved in the same millisecond
keeps the time, which is the model's reading (log 13). -/
def Obligations.SenseChangeMovesTheMismatchTimer : Prop :=
  (∀ (k : LineNo) (high : Bool) (s : State), s.compared k = true → (s.readbackOf k).fault = none →
    ∃ t, exec (.outputSenseChange k high) s = .next t ∧ t.pins.sense[k] = high ∧
      (∀ j : LineNo, j ≠ k → t.pins.sense[j] = s.pins.sense[j]) ∧
      t.readbackOf k =
        { fault := none, agreement := .stopped,
          mismatch :=
            if s.drivenActive k = (high != (s.ann.outputs[k]).activeLow) then .stopped
            else if (s.readbackOf k).mismatch.isRunning then (s.readbackOf k).mismatch else .running 200 0 } ∧
      (t.withPins s.pins).withAnn s.ann = s ∧ ({ t.ann with readback := s.ann.readback } : Annunciation) = s.ann) ∧
  ∀ (k : LineNo) (high level : Bool) (s : State), s.compared k = true → (s.readbackOf k).fault = some level →
    s.pins.sense[k] ≠ high →
    ∃ t, exec (.outputSenseChange k high) s = .next t ∧ t.pins.sense[k] = high ∧
      (t.readbackOf k).fault = some level ∧ (t.readbackOf k).mismatch = .stopped ∧
      (s.drivenActive k ≠ (high != (s.ann.outputs[k]).activeLow) → (∀ kept, (s.readbackOf k).agreement ≠ .following kept) →
        (t.readbackOf k).agreement = .stopped) ∧
      (s.drivenActive k = (high != (s.ann.outputs[k]).activeLow) →
        let kept :=
          match (s.readbackOf k).agreement with
          | .following u => u
          | _ => 0
        (t.readbackOf k).agreement = if s.drivenActive k = level then .running kept else .paused kept) ∧
      (t.withPins s.pins).withAnn s.ann = s ∧ ({ t.ann with readback := s.ann.readback } : Annunciation) = s.ann

/-- R161 to R164: a mismatch timer that runs out faults its output at the driven level and sets LAMP_FAULT; an agreement timer that has
accumulated its time clears the fault; a driven level that moves with the cadence or with TEST begins or ends a mismatch, and starts,
pauses or discards the agreement timer. That an agreement timer's time outlasts the millisecond in which its level moved only if the
sense line follows in it is the model's reading (log 13). -/
def Obligations.ReadBackFaultsAndClears : Prop :=
  (∀ (k : LineNo) (s : State), s.compared k = true → (s.readbackOf k).fault = none →
    (s.readbackOf k).mismatch.isRunning = true →
    ∃ t, exec (.mismatchTimerExpiry k) s = .next t ∧ (t.readbackOf k).fault = some (s.drivenActive k) ∧
      (t.readbackOf k).mismatch = .stopped ∧ t.lampFault = true ∧
      ∀ j : LineNo, j ≠ k → (t.readbackOf j).fault = (s.readbackOf j).fault) ∧
  (∀ (k : LineNo) (s : State), s.active = true → (s.readbackOf k).fault ≠ none →
    (s.readbackOf k).agreement.isRunning = true →
    ∃ t, exec (.agreementTimerExpiry k) s = .next t ∧ (t.readbackOf k).fault = none ∧
      (t.readbackOf k).agreement = .stopped ∧
      (∀ j : LineNo, j ≠ k → (t.readbackOf j).fault = (s.readbackOf j).fault) ∧
      (t.lampFault = true ↔ ∃ j : LineNo, j ≠ k ∧ (s.readbackOf j).fault ≠ none)) ∧
  (∀ (k : LineNo) (s : State), s.compared k = true →
    ∃ t, exec .cadenceTick s = .next t ∧ t.drivenActive k = (s.pattern k).litAt t.ann.phase.val ∧
      (t.readbackOf k).fault = (s.readbackOf k).fault ∧
      ((s.readbackOf k).fault = none →
        (t.readbackOf k).agreement = .stopped ∧
        (t.readbackOf k).mismatch =
          if t.drivenActive k = s.sensedActive k then .stopped
          else if (s.readbackOf k).mismatch.isRunning then (s.readbackOf k).mismatch.tick else .running 200 0) ∧
      ∀ level, (s.readbackOf k).fault = some level →
        (t.readbackOf k).mismatch = .stopped ∧
        (t.drivenActive k = s.sensedActive k →
          let kept :=
            match (s.readbackOf k).agreement with
            | .running u => min (u + 1) 200
            | .paused u => u
            | _ => 0
          (t.readbackOf k).agreement = if t.drivenActive k = level then .running kept else .paused kept) ∧
        (t.drivenActive k ≠ s.sensedActive k →
          (t.readbackOf k).agreement =
            match (s.readbackOf k).agreement with
            | .running u => .following (min (u + 1) 200)
            | .paused u => .following u
            | _ => .stopped)) ∧
  ∀ (k : LineNo) (s : State), s.active = true → s.anyCause = s.engine.healthLevel →
    (s.button .test).timer.isRunning = true → s.sensedButton .test ≠ (s.button .test).pressed →
    (s.readbackOf k).fault = none →
    ∃ t, exec (.buttonQualificationExpiry .test) s = .next t ∧
      (s.sensedButton .test = true → t.drivenActive k = true) ∧
      (s.sensedButton .test = false →
        t.drivenActive k =
          ((s.withAnn { s.ann with test := false }).sourcePattern (s.ann.outputs[k]).source).litAt s.ann.phase.val) ∧
      t.readbackOf k =
        { fault := none, agreement := .stopped,
          mismatch :=
            if (s.sensedButton .test = false ∧ (s.ann.outputs[k]).source = .none) ∨ t.drivenActive k = s.sensedActive k then
              .stopped
            else if (s.readbackOf k).mismatch.isRunning then (s.readbackOf k).mismatch else .running 200 0 }

/-- R153 to R157, R160, R161: when each pattern is lit, the pattern of an entry, and what the outputs show: a CONDITION output its
entry's pattern, a GROUP output the highest-ranked pattern of its entries, the five yes-or-no sources their values, AUD the horn latch
while TEST is not held, every output active while it is; the pins follow through the drive polarity, and are released while the blocks
do not run. -/
def Obligations.OutputsShowTheirPatterns : Prop :=
  (∀ ph : Phase,
    (Pattern.foFlash.litAt ph = true ↔ ph.val ≤ 124 ∨ (250 ≤ ph.val ∧ ph.val ≤ 374)) ∧
    (Pattern.fast.litAt ph = true ↔
      ph.val ≤ 249 ∨ (500 ≤ ph.val ∧ ph.val ≤ 749) ∨ (1000 ≤ ph.val ∧ ph.val ≤ 1249) ∨ (1500 ≤ ph.val ∧ ph.val ≤ 1749)) ∧
    (Pattern.slow.litAt ph = true ↔ ph.val ≤ 999) ∧ Pattern.steady.litAt ph = true ∧ Pattern.off.litAt ph = false) ∧
  (∀ (t : AlarmTable) (e : Entry),
    (e.state = .alert ∨ e.state = .unackCleared →
      entryPattern t e = if t.slots[e.group] = some e.condition then .foFlash else .fast) ∧
    (e.state = .acked → entryPattern t e = .steady) ∧ (e.state = .ringback → entryPattern t e = .slow)) ∧
  (∀ (t : AlarmTable) (g : GroupNo),
    ((∀ e ∈ t.entries, e.group ≠ g) → groupPattern t g = .off) ∧
    ((∃ e ∈ t.entries, e.group = g) →
      (∃ e ∈ t.entries, e.group = g ∧ groupPattern t g = entryPattern t e) ∧
      ∀ e ∈ t.entries, e.group = g → (groupPattern t g).rank ≤ (entryPattern t e).rank)) ∧
  (∀ s : State, s.active = false → s.audPin = none ∧ ∀ k : LineNo, s.outPin k = none) ∧
  ∀ s : State, s.active = true →
    s.audPin = some (s.ann.horn && !s.ann.test) ∧
    (∀ k : LineNo, s.outPin k = some (s.drivenActive k != (s.ann.outputs[k]).activeLow)) ∧
    (s.ann.test = true → ∀ k : LineNo, s.drivenActive k = true ∧ s.outPin k = some (!(s.ann.outputs[k]).activeLow)) ∧
    (s.ann.test = false → ∀ k : LineNo,
      ((s.ann.outputs[k]).source = .none → s.drivenActive k = false) ∧
      (∀ o p, (s.ann.outputs[k]).source = .condition o p →
        (∀ e, s.table.find ⟨o, p⟩ = some e → s.drivenActive k = (entryPattern s.table e).litAt s.ann.phase.val) ∧
        (s.table.find ⟨o, p⟩ = none → s.drivenActive k = false)) ∧
      (∀ g, (s.ann.outputs[k]).source = .group g → s.drivenActive k = (groupPattern s.table g).litAt s.ann.phase.val) ∧
      ((s.ann.outputs[k]).source = .horn → s.drivenActive k = s.ann.horn) ∧
      ((s.ann.outputs[k]).source = .stationLost →
        (s.drivenActive k = true ↔ ∃ n : StationNo, (s.member n).state = .lost ∨ (s.member n).state = .left)) ∧
      ((s.ann.outputs[k]).source = .linkFault →
        (s.drivenActive k = true ↔
          s.control.station = .isolated ∨ s.control.station = .halted ∨ s.control.station = .departing ∨
            s.control.station = .departed ∨ s.link.degraded = true)) ∧
      ((s.ann.outputs[k]).source = .overflow → s.drivenActive k = s.table.overflow) ∧
      ((s.ann.outputs[k]).source = .health →
        (s.drivenActive k = true ↔
          (∃ j : LineNo, (s.readbackOf j).fault ≠ none) ∨ s.table.tableOverflow = true ∨ s.link.degraded = true ∨
            ∃ n : StationNo, (s.repairOf n).state = .failed)))

/-! ### The link (R77 to R97) -/

/-- R77, R83, R91: sensing one full interframe gap changes that alone; a receiver that finds a frame corrupt counts it once, and drives
the slot where its state objects. -/
def Obligations.GapAndCorruptFramesAtTheReceiver : Prop :=
  (∀ s : State, s.active = true → exec .interframeGapSensed s = .next (s.withLink { s.link with gapSensed := true })) ∧
  ∀ (bytes : List ReceivedByte) (s : State), s.receives = true → judge bytes = none →
    exec (.frameReceivedCorrupt bytes) s =
      .next (s.withLink
        { s.link with
          receivedBad := s.link.receivedBad.bump,
          objecting := decide (s.control.station = .listening ∨ s.control.station = .joining ∨
            s.control.station = .running ∨ s.control.station = .departing) })

/-- R77, R91, R92, R93: what a station offers, and when it offers nothing. -/
def Obligations.OffersFollowStateAndClass : Prop :=
  (∀ (s : State) (lane : Lane), s.offer = some lane →
    s.active = true ∧ s.link.gapSensed = true ∧ s.link.sending = none ∧
    (s.control.station = .running ∨ s.control.station = .departing ∨ s.control.station = .joining) ∧
    (s.control.station = .joining → s.link.lanesOpen = false →
      lane = .roll ∧ ∃ f, s.link.lanes.roll = some f ∧ f.kind = .join) ∧
    (¬(s.control.station = .joining ∧ s.link.lanesOpen = false) →
      (lane = .report → s.link.lanes.report ≠ []) ∧
      (lane = .operator → s.link.lanes.report = [] ∧ s.link.lanes.operator ≠ []) ∧
      (lane = .repair → s.link.lanes.report = [] ∧ s.link.lanes.operator = [] ∧ s.link.lanes.repair ≠ []) ∧
      (lane = .roll →
        s.link.lanes.report = [] ∧ s.link.lanes.operator = [] ∧ s.link.lanes.repair = [] ∧ s.link.lanes.roll ≠ none))) ∧
  ∀ s : State, s.active = true → s.link.gapSensed = true → s.link.sending = none →
    (s.control.station = .running ∨ s.control.station = .departing ∨
        (s.control.station = .joining ∧ s.link.lanesOpen = true) →
      (s.link.lanes.report ≠ [] → s.offer = some .report) ∧
      (s.link.lanes.report = [] → s.link.lanes.operator ≠ [] → s.offer = some .operator) ∧
      (s.link.lanes.report = [] → s.link.lanes.operator = [] → s.link.lanes.repair ≠ [] → s.offer = some .repair) ∧
      (s.link.lanes.report = [] → s.link.lanes.operator = [] → s.link.lanes.repair = [] → s.link.lanes.roll ≠ none →
        s.offer = some .roll) ∧
      (s.link.lanes.report = [] → s.link.lanes.operator = [] → s.link.lanes.repair = [] → s.link.lanes.roll = none →
        s.offer = none)) ∧
    (s.control.station = .joining → s.link.lanesOpen = false →
      ∀ f, s.link.lanes.roll = some f → f.kind = .join → s.offer = some .roll)

/-- R87, R94, R95, R96: an attempt puts the frame built from the state as it stands on the medium; the head takes its attempt number, a
mark and a DUMP mark lose their "again" flag, and an OPERATOR entry is in transmission. -/
def Obligations.AttemptBuildsTheFrame : Prop :=
  (∀ (s : State) (n : StationNo) (lane : Lane) (p : Payload), s.me = some n → s.offer = some lane →
    s.headPayload lane = some p →
    exec .attemptStart s =
      .next (s.withLink
        { s.link with
          lanes := startHead lane s.link.lanes, sending := some { lane := lane, frame := { source := n, payload := p } },
          objecting := false }) ∧
    headAttempt lane (startHead lane s.link.lanes) = headFailed lane s.link.lanes + 1 ∧
    headFailed lane (startHead lane s.link.lanes) = headFailed lane s.link.lanes) ∧
  (∀ (s : State) (lane : Lane), s.offer = some lane → s.headPayload lane ≠ none) ∧
  ∀ l : Lanes,
    (∀ m rest, l.report = m :: rest →
      startHead .report l = { l with report := { m with again := false, attempt := m.failed + 1 } :: rest }) ∧
    (∀ e rest, l.operator = e :: rest →
      startHead .operator l = { l with operator := { e with inTransmission := true, attempt := e.failed + 1 } :: rest }) ∧
    (∀ e rest, l.repair = e :: rest →
      startHead .repair l =
        { l with
          repair :=
            { e with
              attempt := e.failed + 1,
              work := match e.work with
                | .dump _ => .dump false
                | .request owners => .request owners } :: rest }) ∧
    (∀ f, l.roll = some f → startHead .roll l = { l with roll := some { f with attempt := f.failed + 1 } })

/-- R15, R16, R19, R87, R105 to R111: the contents of each kind of frame, built from the head of its lane and the state as it
stands. -/
def Obligations.FrameContentsFromThePointTable : Prop :=
  ∀ s : State,
    (∀ m rest, s.link.lanes.report = m :: rest → s.headPayload .report = some (.report (s.contents m.point))) ∧
    (∀ e rest, s.link.lanes.operator = e :: rest →
      s.headPayload .operator = some (.operator { target := e.target, action := e.action, items := e.items })) ∧
    (∀ e rest, s.link.lanes.repair = e :: rest →
      (∀ again, e.work = .dump again → s.headPayload .repair = some (.dump s.dumpBody)) ∧
      (∀ owners, e.work = .request owners → s.headPayload .repair = some (.resyncRequest owners))) ∧
    (∀ f, s.link.lanes.roll = some f →
      (∀ c, f.kind = .join → s.control.joinCause = some c →
        s.headPayload .roll =
          some (.join { restartCount := s.control.restartCount, cause := c, interval := s.ownInterval })) ∧
      (f.kind = .presence → s.headPayload .roll = some (.presence s.presenceBody)) ∧
      (f.kind = .leave → s.headPayload .roll = some (.leave .supplyLow))) ∧
    (∀ img, s.control.loaded = some img → s.ownInterval = imageInterval img ∧
      s.presenceBody.phase.val = (s.ann.phase.val + (if img[1] = 0#8 then 1 else 0)) % 2000) ∧
    (∀ p : PointNo, s.contents p =
      { point := p, state := (s.point p).state, revision := (s.point p).revision, group := (s.point p).group,
        foEligible := (s.groupOptions (s.point p).group).firstOut,
        audible := (s.groupOptions (s.point p).group).audible }) ∧
    (s.dumpBody.restartCount = s.control.restartCount ∧ pointsRise s.dumpBody.records = true ∧
      (∀ p : PointNo, (∃ r ∈ s.dumpBody.records, r.point = p) ↔ (s.point p).state ≠ .normal) ∧
      ∀ r ∈ s.dumpBody.records,
        seqOf r.state = (s.point r.point).state ∧ r.revision = (s.point r.point).revision ∧
        r.group = (s.point r.point).group ∧ r.foEligible = (s.groupOptions r.group).firstOut ∧
        r.audible = (s.groupOptions r.group).audible ∧
        (r.fo = true ↔ ∃ n, s.me = some n ∧ s.table.slots[r.group] = some ⟨n, r.point⟩)) ∧
    s.presenceBody.restartCount = s.control.restartCount ∧ s.presenceBody.interval = s.ownInterval ∧
    s.presenceBody.digestCount.val = ((List.finRange 17).filter (fun p => (s.point p).state ≠ .normal)).length ∧
    s.presenceBody.digestSum.toNat =
      (((List.finRange 17).filter (fun p => (s.point p).state ≠ .normal)).map
        (fun p => p.val * 256 + (s.point p).revision.toNat)).sum % 65536

/-- R80, R97: a lost arbitration is counted and is no failed attempt; a LEAVE owed behind a PRESENCE takes the slot. -/
def Obligations.LostArbitrationKeepsTheHead : Prop :=
  ∀ (s : State) (a : Attempt), s.active = true → s.link.sending = some a →
    exec .arbLost s =
      .next (s.withLink
        { s.link with
          sending := none, arbLost := s.link.arbLost.bump,
          lanes :=
            if a.lane = .roll ∧ s.link.lanes.leaveOwed = true then
              { s.link.lanes with roll := some (freshRoll .leave), leaveOwed := false }
            else s.link.lanes })

/-- R81, R84, R87, R97: a collision or an objection before the eighth is one more failed attempt of the head, which keeps its place; one
of a PRESENCE with a LEAVE owed behind it gives the slot to the LEAVE, whatever its failed attempts, and counts nothing undelivered; an
objection at a receiver ends the slot and nothing else. -/
def Obligations.FailedAttemptKeepsTheHead : Prop :=
  (∀ (c : Instr) (s : State) (a : Attempt), (c = .collided ∨ c = .objected) → s.active = true →
    s.anyCause = s.engine.healthLevel → s.link.sending = some a →
    ¬(a.lane = .roll ∧ s.link.lanes.leaveOwed = true) → headFailed a.lane s.link.lanes + 1 < 8 →
    ∃ t, exec c s = .next t ∧
      t.link =
        { s.link with
          sending := none, lanes := failHead a.lane s.link.lanes,
          collided := if c = .collided then s.link.collided.bump else s.link.collided,
          objected := if c = .objected then s.link.objected.bump else s.link.objected } ∧
      s.sameApartFromLink t) ∧
  (∀ (c : Instr) (s : State) (a : Attempt), (c = .collided ∨ c = .objected) → s.active = true →
    s.anyCause = s.engine.healthLevel → s.link.sending = some a → a.lane = .roll → s.link.lanes.leaveOwed = true →
    ∃ t, exec c s = .next t ∧
      t.link =
        { s.link with
          sending := none,
          lanes := { s.link.lanes with roll := some { kind := .leave, attempt := 0, failed := 0 }, leaveOwed := false },
          collided := if c = .collided then s.link.collided.bump else s.link.collided,
          objected := if c = .objected then s.link.objected.bump else s.link.objected } ∧
      s.sameApartFromLink t) ∧
  (∀ s : State, s.active = true → s.anyCause = s.engine.healthLevel → s.link.sending = none →
    ∃ t, exec .objected s = .next t ∧ t.link = { s.link with objecting := false } ∧ s.sameApartFromLink t) ∧
  ∀ l : Lanes,
    (∀ m rest, l.report = m :: rest → failHead .report l = { l with report := { m with failed := m.failed + 1 } :: rest }) ∧
    (∀ e rest, l.operator = e :: rest → failHead .operator l = { l with operator := { e with failed := e.failed + 1 } :: rest }) ∧
    (∀ e rest, l.repair = e :: rest → failHead .repair l = { l with repair := { e with failed := e.failed + 1 } :: rest }) ∧
    (∀ f, l.roll = some f → failHead .roll l = { l with roll := some { f with failed := f.failed + 1 } })

/-- R89, R90, R94 to R97, R178, R179: an eighth failed attempt abandons the frame, counts it and sets LINK_DEGRADED, and its head leaves
the lane as the lane gives; an undelivered LEAVE that does not bring the count to 16 ends DEPARTING, and the lanes are emptied (R14,
R69, R99). A mark of point 16 may join the REPORT lane, by the cause that is set (R17). -/
def Obligations.EighthFailureIsUndelivered : Prop :=
  (∀ (c : Instr) (s : State) (a : Attempt), (c = .collided ∨ c = .objected) → s.active = true →
    s.link.sending = some a → ¬(a.lane = .roll ∧ s.link.lanes.leaveOwed = true) →
    7 ≤ headFailed a.lane s.link.lanes → s.link.undeliveredRun < 15 → s.leaveEnds a.lane = false →
    ∃ t, exec c s = .next t ∧ t.link.undelivered = s.link.undelivered.bump ∧ t.link.degraded = true ∧
      t.link.undeliveredRun = s.link.undeliveredRun + 1 ∧ t.link.sending = none ∧
      t.link.lanes.report.filter (fun m => decide (m.point ≠ 16)) =
        (dropUndelivered a.lane (failHead a.lane s.link.lanes)).report.filter (fun m => decide (m.point ≠ 16)) ∧
      (s.link.degraded = true → s.anyCause = s.engine.healthLevel →
        t.link.lanes.report = (dropUndelivered a.lane (failHead a.lane s.link.lanes)).report) ∧
      t.link.lanes.operator = (dropUndelivered a.lane (failHead a.lane s.link.lanes)).operator ∧
      t.link.lanes.repair = (dropUndelivered a.lane (failHead a.lane s.link.lanes)).repair ∧
      t.link.lanes.roll = (dropUndelivered a.lane (failHead a.lane s.link.lanes)).roll ∧
      t.control = s.control ∧ t.roster = s.roster ∧ t.monitor = s.monitor ∧ t.service = s.service ∧ t.pins = s.pins) ∧
  (∀ l : Lanes,
    (∀ m rest, l.report = m :: rest →
      dropUndelivered .report (failHead .report l) =
        { l with
          report := if m.again then rest ++ [{ point := m.point, again := false, attempt := 0, failed := 0 }] else rest }) ∧
    (∀ e rest, l.operator = e :: rest →
      dropUndelivered .operator (failHead .operator l) = { l with operator := rest }) ∧
    (∀ e rest, l.repair = e :: rest →
      dropUndelivered .repair (failHead .repair l) =
        { l with
          repair :=
            if e.work = .dump true then rest ++ [{ work := .dump false, attempt := 0, failed := 0 }] else rest }) ∧
    (∀ f, l.roll = some f →
      dropUndelivered .roll (failHead .roll l) =
        { l with roll := if f.kind = .join then some { kind := .join, attempt := 0, failed := 0 } else none })) ∧
  ∀ (c : Instr) (s : State) (a : Attempt), (c = .collided ∨ c = .objected) → s.active = true →
    s.link.sending = some a → ¬(a.lane = .roll ∧ s.link.lanes.leaveOwed = true) →
    7 ≤ headFailed a.lane s.link.lanes → s.link.undeliveredRun < 15 → s.leaveEnds a.lane = true →
    ∃ t, exec c s = .next t ∧ t.link.undelivered = s.link.undelivered.bump ∧ t.link.degraded = true ∧
      t.link.sending = none ∧ t.link.undeliveredRun = 0 ∧ s.emptiesLanes s.link.lanes t ∧
      (s.control.supply = .low → t.control.station = .departed ∧ t.link.lanes = .empty) ∧
      (s.control.supply = .normal →
        t.control.station = .joining ∧ t.control.joinCause = some .supplyRecovered ∧
        t.link.lanes = { Lanes.empty with roll := some { kind := .join, attempt := 0, failed := 0 } })

/-- R14, R69, R90, R99, R178, R181: the sixteenth undelivered frame in a row isolates the station and empties its lanes: each mark that
waits behind the abandoned head is locally delivered in lane order, from the point's present record, and each OPERATOR entry is counted
dropped. What the emptying itself does in any state is the first clause. -/
def Obligations.SixteenthUndeliveredIsolates : Prop :=
  (∀ s : State,
    (emptyLanes s).link = { s.link with lanes := .empty, sending := none, undeliveredRun := 0 } ∧
    (emptyLanes s).ann.operatorDropped = Counter.bumpBy s.link.lanes.operator.length s.ann.operatorDropped ∧
    (∀ p : PointNo, (emptyLanes s).reportMark p = .none) ∧
    (∀ n, s.me = some n →
      (emptyLanes s).table =
        s.link.lanes.report.foldl (fun t m => (applyContents s.me false n (s.contents m.point) ⟨t, []⟩).table) s.table ∧
      (emptyLanes s).repair = s.repair) ∧
    (emptyLanes s).control = s.control ∧ (emptyLanes s).engine = s.engine ∧ (emptyLanes s).roster = s.roster ∧
    (emptyLanes s).monitor = s.monitor ∧ (emptyLanes s).service = s.service ∧ (emptyLanes s).pins = s.pins) ∧
  ∀ (c : Instr) (s : State) (a : Attempt), (c = .collided ∨ c = .objected) → s.active = true →
    s.link.sending = some a → ¬(a.lane = .roll ∧ s.link.lanes.leaveOwed = true) →
    7 ≤ headFailed a.lane s.link.lanes → 15 ≤ s.link.undeliveredRun →
    let waiting := dropUndelivered a.lane (failHead a.lane s.link.lanes)
    ∃ t, exec c s = .next t ∧ t.link.lanes = .empty ∧ t.link.sending = none ∧ t.link.undeliveredRun = 0 ∧
      t.link.degraded = true ∧ t.link.undelivered = s.link.undelivered.bump ∧ t.roster.presence = .stopped ∧
      s.emptiesLanes waiting t ∧
      (s.link.degraded = true → s.anyCause = s.engine.healthLevel → ∀ n, s.me = some n →
        t.table =
          waiting.report.foldl (fun u m => (applyContents s.me false n (s.contents m.point) ⟨u, []⟩).table) s.table) ∧
      (∀ p : PointNo, p ≠ 16 → t.point p = s.point p) ∧ t.monitor = s.monitor ∧ t.service = s.service ∧ t.pins = s.pins ∧
      (s.control.supply = .normal → t.control.station = .isolated ∧ t.control.isolationHold = .running 2000 0) ∧
      (s.control.supply = .low → t.control.station = .departed ∧ t.control.isolationHold = .stopped)

/-! ### Deliveries (R37 to R50, R88, R100, R113, R121 to R132) -/

/-- R39, R40, R43, R88, R94 to R97: at the delivery of its own frame, of whichever kind, the sender counts DELIVERED, returns the
consecutive-undelivered count to 0, clears LINK_DEGRADED after a first attempt, and the head leaves its lane as the lane gives; the own
REPORT and the own DUMP take effect in the own table. A mark of point 16 may join the REPORT lane, by a cause that changes (R17). -/
def Obligations.OwnDeliveryIsCounted : Prop :=
  (∀ (s : State) (a : Attempt), s.active = true → s.link.sending = some a →
    ∃ t, exec (deliveryOf a.frame) s = .next t ∧ t.link.delivered = s.link.delivered.bump ∧
      t.link.undeliveredRun = 0 ∧ t.link.sending = none ∧ t.link.receivedGood = s.link.receivedGood ∧
      t.link.degraded = (s.link.degraded && decide (headAttempt a.lane s.link.lanes ≠ 1)) ∧
      ((∀ c, a.frame.payload ≠ .leave c) →
        t.link.lanes.operator = (dropDelivered a.lane s.link.lanes).operator ∧
        t.link.lanes.roll = (dropDelivered a.lane s.link.lanes).roll ∧
        t.link.lanes.leaveOwed = (dropDelivered a.lane s.link.lanes).leaveOwed ∧
        t.link.lanes.report.filter (fun m => decide (m.point ≠ 16)) =
          (dropDelivered a.lane s.link.lanes).report.filter (fun m => decide (m.point ≠ 16)) ∧
        (a.frame.payload.isJoin = false →
          t.link.lanes.repair = (dropDelivered a.lane s.link.lanes).repair ∧
          (s.anyCause = s.engine.healthLevel → overflowLaw s.me s.table → s.me = some a.frame.source →
            (s.link.degraded = true → headAttempt a.lane s.link.lanes ≠ 1) →
            t.link.lanes.report = (dropDelivered a.lane s.link.lanes).report))) ∧
      (s.marks = true → s.me = some a.frame.source →
        (∀ b, a.frame.payload = .report b →
          t.table = (applyContents s.me s.givesSlots a.frame.source b ⟨s.table, []⟩).table ∧
          (∀ st, entryState? b.state = some st → s.table.find ⟨a.frame.source, b.point⟩ = none →
            t.table.entries =
              s.table.entries ++
                [{ owner := a.frame.source, point := b.point, group := b.group, state := st, revision := b.revision,
                   foEligible := b.foEligible, audible := b.audible, stale := false }] ∧
            (s.control.station = .running → b.foEligible = true → s.table.slots[b.group] = none →
              t.table.slots[b.group] = some ⟨a.frame.source, b.point⟩) ∧
            (¬(s.control.station = .running ∧ b.foEligible = true ∧ s.table.slots[b.group] = none) →
              t.table.slots = s.table.slots))) ∧
        (∀ b, a.frame.payload = .dump b → t.table = (applyDump s.me a.frame.source b.records ⟨s.table, []⟩).table) ∧
        ((∀ b, a.frame.payload ≠ .report b) → (∀ b, a.frame.payload ≠ .dump b) → a.frame.payload.isJoin = false →
          (∀ c, a.frame.payload ≠ .leave c) → t.table = s.table)) ∧
      t.monitor = s.monitor ∧ t.service = s.service ∧ t.pins = s.pins) ∧
  ∀ l : Lanes,
    (∀ m rest, l.report = m :: rest →
      dropDelivered .report l =
        { l with
          report := if m.again then rest ++ [{ point := m.point, again := false, attempt := 0, failed := 0 }] else rest }) ∧
    (∀ e rest, l.operator = e :: rest → dropDelivered .operator l = { l with operator := rest }) ∧
    (∀ e rest, l.repair = e :: rest →
      dropDelivered .repair l =
        { l with
          repair :=
            if e.work = .dump true then rest ++ [{ work := .dump false, attempt := 0, failed := 0 }] else rest }) ∧
    dropDelivered .roll l =
      { l with
        roll := if l.leaveOwed then some { kind := .leave, attempt := 0, failed := 0 } else none, leaveOwed := false }

/-- R33, R50, R52, R84, R121, R124, R125: a delivered frame other than a LEAVE makes its source PRESENT and starts its silence timer,
for L times the interval then recorded. Where the source was ABSENT, LOST or LEFT, no entry of it stays stale; the entries of all other
stations stay in order as they were. A frame that is not one of the table's own (R35), a PRESENCE that finds a restart apart, leaves the
entries of the source too, as the revival leaves them, and the slots; but for the own entries that an OPERATOR's target or the own
point 16 locally delivers (R12, R17). -/
def Obligations.DeliveredFrameProvesItsSourceAlive : Prop :=
  ∀ (s : State) (f : Frame), s.receives = true → s.me ≠ some f.source → (s.member f.source).state ≠ .self →
    (∀ c, f.payload ≠ .leave c) →
    ∃ t, exec (deliveryOf f) s = .next t ∧ t.link.receivedGood = s.link.receivedGood.bump ∧
      (t.member f.source).state = .present ∧
      (t.member f.source).silence = .running (s.roster.lossWindow * intervalMs (t.member f.source).interval) 0 ∧
      (∀ m : StationNo, m ≠ f.source → t.member m = s.member m) ∧
      ((s.member f.source).state = .absent ∨ (s.member f.source).state = .lost ∨ (s.member f.source).state = .left →
        ∀ e ∈ t.table.entries, e.owner = f.source → e.stale = false) ∧
      (let others : Entry → Bool := fun e => decide (e.owner ≠ f.source ∧ s.me ≠ some e.owner)
       t.table.entries.filter others = s.table.entries.filter others) ∧
      ((∀ b, f.payload ≠ .report b) → (∀ b, f.payload ≠ .dump b) → f.payload.isJoin = false →
        (∀ b c, f.payload = .presence b → (s.member f.source).restartCount = some c → c = b.restartCount) →
        (let remote : Entry → Bool := fun e => decide (s.me ≠ some e.owner)
         t.table.entries.filter remote = (s.heardEntries f.source).filter remote) ∧
        (∀ (g : GroupNo) (c : Condition), s.me ≠ some c.owner → (t.table.slots[g] = some c ↔ s.table.slots[g] = some c)) ∧
        ((∀ b, f.payload = .operator b → s.me = some b.target → s.marks = true) →
          s.leavesTable { s.table with entries := s.heardEntries f.source } t)) ∧
      t.monitor = s.monitor ∧ t.service = s.service ∧ t.pins = s.pins

/-- R33, R37, R38, R39, R40, R50, R52, R54, R55, R149: what a delivered REPORT of another station makes of the table, case by case: the
removal, the update in place, the creation at the tail with the slot it takes or does not take, the drop, and the cases that change
nothing. In each the other entries stay in order as they were, non-stale where the source is revived, with the other slots, the own
point 16 apart (`State.leavesTable`); and a removal clears OVERFLOW and TABLE_OVERFLOW at a shared occupancy of 83 or less, and leaves
both as they were at 84 or more. -/
def Obligations.ReportChangesItsEntry : Prop :=
  ∀ (s : State) (src : StationNo) (b : PointReport), s.receives = true → s.me ≠ some src →
    let c : Condition := ⟨src, b.point⟩
    let heard := s.heardEntries src
    let sent : EntryState → Entry := fun st =>
      { owner := src, point := b.point, group := b.group, state := st, revision := b.revision, foEligible := b.foEligible,
        audible := b.audible, stale := false }
    ∃ t, exec (.reportDelivered src b) s = .next t ∧
      (b.state = .normal → (s.table.find c).isSome = true →
        let left := heard.filter (fun e => decide (e.condition ≠ c))
        let stays := decide (84 ≤ occupancy s.me left)
        s.leavesTable
          { s.table with
            entries := left, slots := s.table.slots.map (fun h => if h = some c then none else h),
            overflow := s.table.overflow && stays, tableOverflow := s.table.tableOverflow && stays } t ∧
        (occupancy s.me left ≤ 83 → t.table.overflow = false ∧ t.table.tableOverflow = false) ∧
        (84 ≤ occupancy s.me left →
          t.table.overflow = s.table.overflow ∧ t.table.tableOverflow = s.table.tableOverflow)) ∧
      (b.state = .normal → s.table.find c = none → s.leavesTable { s.table with entries := heard } t) ∧
      (∀ st e, entryState? b.state = some st → s.table.find c = some e →
        (e.state = st → e.revision = b.revision → s.leavesTable { s.table with entries := heard } t) ∧
        (e.state ≠ st ∨ e.revision ≠ b.revision →
          s.leavesTable
            { s.table with
              entries := heard.map (fun x => if x.condition = c then sent st else x),
              slots :=
                if b.group ≠ e.group ∧ s.table.slots[e.group] = some c then s.table.slots.set e.group none else s.table.slots }
            t)) ∧
      (∀ st, entryState? b.state = some st → s.table.find c = none → occupancy s.me s.table.entries < 111 →
        s.leavesTable
          { s.table with
            entries := heard ++ [sent st],
            slots :=
              if s.control.station = .running ∧ b.foEligible = true ∧ s.table.slots[b.group] = none then
                s.table.slots.set b.group (some c)
              else s.table.slots } t) ∧
      (∀ st, entryState? b.state = some st → s.table.find c = none → 111 ≤ occupancy s.me s.table.entries →
        s.leavesTable
          { s.table with entries := heard, overflow := true, tableOverflow := true, dropped := s.table.dropped.bump } t ∧
        t.table.overflow = true ∧ t.table.tableOverflow = true ∧
        (s.table.overflow = false → ∀ n : StationNo, (t.repairOf n).state ≠ .requested)) ∧
      (s.anyCause = s.engine.healthLevel → t.table.tableOverflow = s.table.tableOverflow → t.engine = s.engine) ∧
      (∀ (g : GroupNo) (k : Condition), t.table.slots[g] = some k →
        s.table.slots[g] = some k ∨
          (k = c ∧ g = b.group ∧ s.control.station = .running ∧ b.foEligible = true ∧ s.table.slots[g] = none ∧
            b.state ≠ .normal ∧ s.table.find k = none))

/-- R158, R159: after REPORT contents are applied, the horn latch is set for an entry newly in a state that calls for it, is clear where
no held entry calls, and is otherwise as it was: a set latch stays set where some held entry calls, and a clear one stays clear where
the condition has no entry afterwards, or one that does not call, or one at the state and revision it held before. -/
def Obligations.HornLatchFollowsTableChanges : Prop :=
  ∀ (s : State) (give : Bool) (src : StationNo) (b : PointReport),
    let t := takeChange (applyContents s.me give src b) s
    ((∀ e ∈ t.table.entries, callsHorn s.ann.scope e = false) → t.ann.horn = false) ∧
    (∀ e', t.table.find ⟨src, b.point⟩ = some e' → callsHorn s.ann.scope e' = true →
      (∀ e, s.table.find ⟨src, b.point⟩ = some e → e.state ≠ e'.state ∨ e.revision ≠ e'.revision) → t.ann.horn = true) ∧
    (s.ann.horn = true → (∃ e ∈ t.table.entries, callsHorn s.ann.scope e = true) → t.ann.horn = true) ∧
    (s.ann.horn = false → t.table = s.table → t.ann.horn = false) ∧
    (s.ann.horn = false →
      (∀ e', t.table.find ⟨src, b.point⟩ = some e' →
        callsHorn s.ann.scope e' = false ∨
          ∃ e, s.table.find ⟨src, b.point⟩ = some e ∧ e.state = e'.state ∧ e.revision = e'.revision) →
      t.ann.horn = false)

/-- R9, R70, R71: the target of a delivered OPERATOR frame takes its items in order, those of point 16 among them where the causes are
settled; a station that is not the target takes none. -/
def Obligations.OperatorItemsTakenByTheTarget : Prop :=
  ∀ (s : State) (src : StationNo) (b : OperatorBody), s.receives = true → s.me ≠ some src →
    ∃ t, exec (.operatorDelivered src b) s = .next t ∧
      (s.me = some b.target → ∀ p : PointNo, p ≠ 16 →
        t.point p = (b.items.foldl (takeItem b.action) s).point p) ∧
      (s.me = some b.target →
        t.engine.itemsRefused = (b.items.foldl (takeItem b.action) s).engine.itemsRefused) ∧
      (s.me ≠ some b.target → t.engine.itemsRefused = s.engine.itemsRefused ∧
        ∀ p : PointNo, p ≠ 16 → t.point p = s.point p) ∧
      (s.anyCause = s.engine.healthLevel → overflowLaw s.me s.table →
        (s.me = some b.target → t.engine = (b.items.foldl (takeItem b.action) s).engine) ∧
        (s.me ≠ some b.target → t.engine = s.engine)) ∧
      t.control = s.control ∧ t.monitor = s.monitor ∧ t.service = s.service ∧ t.pins = s.pins

/-- R96, R142, R143: a station that a RESYNC_REQUEST lists asks for its DUMP mark, and every receiver withdraws the listed owners; what
the REPAIR lane does with a request for the DUMP mark, where none is in it, where one is pending and where its attempt is on the medium;
and what a withdrawal does to each element. -/
def Obligations.ResyncRequestMarksAndWithdraws : Prop :=
  (∀ (s : State) (src : StationNo) (owners : List StationNo), s.receives = true → s.me ≠ some src →
    ∃ t, exec (.resyncRequestDelivered src owners) s = .next t ∧
      (∀ n, s.me = some n → n ∈ owners → s.control.station.silent = false →
        t.link.lanes.repair.any RepairEntry.isDump = true ∧
        t.link.lanes.repair.filter RepairEntry.isDump =
          if s.link.lanes.repair.any RepairEntry.isDump then s.link.lanes.repair.filter RepairEntry.isDump
          else [{ work := .dump false, attempt := 0, failed := 0 }]) ∧
      (s.control.station.silent = true ∨ (∀ n, s.me = some n → n ∉ owners) →
        t.link.lanes.repair.filter RepairEntry.isDump = s.link.lanes.repair.filter RepairEntry.isDump) ∧
      (∀ e ∈ t.link.lanes.repair, ∀ os, e.work = .request os → ∀ o ∈ owners, o ∉ os) ∧
      (∀ n : StationNo, t.repairOf n = s.repairOf n) ∧
      t.control = s.control ∧ t.monitor = s.monitor ∧ t.service = s.service ∧ t.pins = s.pins) ∧
  (∀ s : State,
    (s.lanesTake = true → s.link.lanes.repair.any RepairEntry.isDump = false →
      requestDump s =
        s.withLanes
          { s.link.lanes with
            repair := s.link.lanes.repair ++ [{ work := .dump false, attempt := 0, failed := 0 }] }) ∧
    (s.lanesTake = true → ∀ a e rest, s.link.sending = some a → a.lane = .repair → s.link.lanes.repair = e :: rest →
      e.isDump = true → requestDump s = s.withLanes { s.link.lanes with repair := { e with work := .dump true } :: rest }) ∧
    (s.link.lanes.repair.any RepairEntry.isDump = true →
      (¬∃ a e rest, s.link.sending = some a ∧ a.lane = .repair ∧ s.link.lanes.repair = e :: rest ∧ e.isDump = true) →
      requestDump s = s) ∧
    (s.lanesTake = false → requestDump s = s)) ∧
  ∀ (o : StationNo) (e : RepairEntry) (rest : List RepairEntry),
    (∀ onMedium : Bool, withdrawIn onMedium o [] = []) ∧ withdrawIn true o (e :: rest) = e :: withdrawIn false o rest ∧
    (∀ again, e.work = .dump again → withdrawIn false o (e :: rest) = e :: withdrawIn false o rest) ∧
    ∀ owners, e.work = .request owners →
      (o ∉ owners → withdrawIn false o (e :: rest) = e :: withdrawIn false o rest) ∧
      (o ∈ owners → (∀ x ∈ owners, x = o) → withdrawIn false o (e :: rest) = withdrawIn false o rest) ∧
      (o ∈ owners → (∃ x ∈ owners, x ≠ o) →
        withdrawIn false o (e :: rest) =
          { e with work := .request (owners.filter (fun x => decide (x ≠ o))) } :: withdrawIn false o rest)

/-- R43 to R46, R125, R132, R142, R144: a delivered DUMP ends the repair of its source, withdraws it from the waiting requests, records
its restart count and takes it from the awaited set; a set it empties in JOINING takes the station to RUNNING; and the table takes the
DUMP's five steps. Where changes are handed over by
local delivery, the own point 16 may change beside them, by a cause that clears or is set (R12, R17). -/
def Obligations.DumpEndsRepairAndAwaiting : Prop :=
  ∀ (s : State) (src : StationNo) (b : DumpBody), s.receives = true → s.me ≠ some src →
    ∃ t, exec (.dumpDelivered src b) s = .next t ∧ t.repairOf src = .atReset ∧
      (t.member src).restartCount = some b.restartCount ∧ s.withdraws src t ∧ s.awaitsNoMore src t ∧
      (s.control.station = .joining → s.roster.awaited = [src] → t.control.station = .running) ∧
      (src ∉ s.roster.awaited → t.control = s.control ∧ t.roster.awaited = s.roster.awaited) ∧
      s.leavesTable (applyDump s.me src b.records ⟨s.table, []⟩).table t ∧
      t.monitor = s.monitor ∧ t.service = s.service ∧ t.pins = s.pins

/-- R43 to R46, R54: after a DUMP its source's entries are its records, less those dropped for want of a shared place, which are
counted; no entry of the source is stale; the slots of the source's conditions are exactly those its fo flags give, the last listed of a
group holding the slot; and the entries and slots of other owners stay, but for a slot an fo flag overrides. An entry holds its
record's group and options whatever it held (R46, R139); that this comes before the slots are given, so that the slot is the one of the
record's group, is the model's choice (log 24). -/
def Obligations.DumpReplacesItsSource : Prop :=
  ∀ (me : Option StationNo) (src : StationNo) (b : DumpBody) (t : AlarmTable), tableLaw me t → slotLaw t →
    b.wellFormed = true →
    let u := (applyDump me src b.records ⟨t, []⟩).table
    (me = some src ∨ occupancy me t.entries + b.records.length ≤ 111 →
      ∀ r ∈ b.records, ∃ e, u.find ⟨src, r.point⟩ = some e) ∧
    (∀ r ∈ b.records, ∀ e, u.find ⟨src, r.point⟩ = some e →
      e.state = r.state ∧ e.revision = r.revision ∧ e.stale = false ∧ e.group = r.group ∧ e.foEligible = r.foEligible ∧
        e.audible = r.audible) ∧
    u.dropped = Counter.bumpBy (b.records.filter (fun r => (u.find ⟨src, r.point⟩).isNone)).length t.dropped ∧
    ((∃ r ∈ b.records, u.find ⟨src, r.point⟩ = none) →
      (u.overflow = true ∧ u.tableOverflow = true) ∨ occupancy me u.entries ≤ 83) ∧
    (∀ e ∈ u.entries, e.owner = src → e.stale = false ∧ ∃ r ∈ b.records, r.point = e.point) ∧
    (∀ (g : GroupNo) (c : Condition), u.slots[g] = some c → c.owner = src →
      ∃ r ∈ b.records, r.point = c.point ∧ r.fo = true) ∧
    (∀ before r later, b.records = before ++ r :: later → r.fo = true → ∀ e, u.find ⟨src, r.point⟩ = some e →
      (∀ r' ∈ later, r'.fo = true → ∀ e', u.find ⟨src, r'.point⟩ = some e' → e'.group ≠ e.group) →
      u.slots[e.group] = some ⟨src, r.point⟩) ∧
    (∀ (g : GroupNo) (c : Condition), t.slots[g] = some c → c.owner ≠ src →
      (∀ r ∈ b.records, r.fo = true → ∀ e, u.find ⟨src, r.point⟩ = some e → e.group ≠ g) → u.slots[g] = some c) ∧
    (∀ (g : GroupNo) (c : Condition), u.slots[g] = some c → c.owner ≠ src → t.slots[g] = some c) ∧
    ∀ e, e.owner ≠ src → (e ∈ u.entries ↔ e ∈ t.entries)

/-- R47, R55, R125, R127: a delivered JOIN of another station removes its entries and slots and no others, and clears OVERFLOW where
shared occupancy falls to 83 or less; it records what it carries, and asks for this station's DUMP in RUNNING and in JOINING after the
own JOIN. -/
def Obligations.JoinClearsAndRecordsItsSource : Prop :=
  ∀ (s : State) (src : StationNo) (b : JoinBody), s.receives = true → s.me ≠ some src →
    ∃ t, exec (.joinDelivered src b) s = .next t ∧
      (∀ e ∈ t.table.entries, e.owner ≠ src) ∧
      (∀ (g : GroupNo) (c : Condition), t.table.slots[g] = some c → c.owner ≠ src) ∧
      s.leavesTable (s.withoutOwner src) t ∧
      (t.member src).restartCount = some b.restartCount ∧ (t.member src).joinCause = some b.cause ∧
      (t.member src).interval = b.interval ∧
      (s.control.station = .running ∨ (s.control.station = .joining ∧ s.link.lanesOpen = true) →
        t.link.lanes.repair.any RepairEntry.isDump = true) ∧
      (¬(s.control.station = .running ∨ (s.control.station = .joining ∧ s.link.lanesOpen = true)) →
        t.link.lanes.repair = s.link.lanes.repair) ∧
      t.control = s.control ∧ t.repair = s.repair ∧ t.monitor = s.monitor ∧ t.service = s.service ∧ t.pins = s.pins

/-- R47, R92, R131: the delivery of the own JOIN in JOINING; on a lawful table it removes the own entries and slots and nothing else. -/
def Obligations.OwnJoinOpensTheLanes : Prop :=
  ∀ (s : State) (n : StationNo) (b : JoinBody), s.active = true → s.me = some n → s.control.station = .joining →
    s.link.sending = some { lane := .roll, frame := { source := n, payload := .join b } } →
    ∃ t, exec (.joinDelivered n b) s = .next t ∧ t.link.lanesOpen = true ∧
      (t.member n).joinCause = some b.cause ∧ t.roster.presence = .running (intervalMs s.ownInterval) 0 ∧
      t.link.lanes.repair.any RepairEntry.isDump = true ∧ (∀ e ∈ t.table.entries, e.owner ≠ n) ∧
      (∀ (g : GroupNo) (c : Condition), t.table.slots[g] = some c → c.owner ≠ n) ∧
      (overflowLaw s.me s.table → t.table = s.withoutOwner n) ∧
      ((∀ m : StationNo, (s.member m).state ≠ .present) →
        t.control.station = .running ∧ t.roster.joinWindow = .stopped ∧ t.roster.awaited = []) ∧
      ((∃ m : StationNo, (s.member m).state = .present) →
        t.control.station = .joining ∧ t.roster.joinWindow = .running 2000 0 ∧
        ∀ m : StationNo, m ∈ t.roster.awaited ↔ (s.member m).state = .present)

/-- R48, R126, R137, R140, R142, R149: the restart check, the digest comparison with its request, and the cadence at a delivered PRESENCE.
Outside RUNNING, with the record REQUESTED, and with OVERFLOW set where no restart is found, nothing is compared: the record and the
REPAIR lane stay. -/
def Obligations.PresenceIsCheckedAndCompared : Prop :=
  ∀ (s : State) (src : StationNo) (b : PresenceBody), s.receives = true → s.me ≠ some src →
    (s.member src).state ≠ .self →
    ∃ t, exec (.presenceDelivered src b) s = .next t ∧ (t.member src).restartCount = some b.restartCount ∧
      (t.member src).interval = b.interval ∧
      (∀ c, (s.member src).restartCount = some c → c ≠ b.restartCount →
        (∀ e ∈ t.table.entries, e.owner ≠ src) ∧
        (∀ (g : GroupNo) (k : Condition), t.table.slots[g] = some k → k.owner ≠ src) ∧
        s.leavesTable (s.withoutOwner src) t) ∧
      ((s.member src).state = .present → (s.member src).restartCount = some b.restartCount →
        s.control.station = .running → s.table.overflow = false → (s.repairOf src).state ≠ .requested →
        (digestMatches s.table src b = true → t.repairOf src = .atReset ∧ t.link.lanes.repair = s.link.lanes.repair) ∧
        (digestMatches s.table src b = false →
          t.repairOf src = { state := .requested, attempts := 1, timer := .running (2 * intervalMs b.interval) 0 } ∧
          ∃ e ∈ t.link.lanes.repair, ∃ owners, e.work = .request owners ∧ src ∈ owners)) ∧
      (s.control.station ≠ .running → t.repairOf src = s.repairOf src) ∧
      (s.control.station ≠ .running ∨ (s.repairOf src).state = .requested ∨
          (s.table.overflow = true ∧ ∀ c, (s.member src).restartCount = some c → c = b.restartCount) →
        t.repairOf src = s.repairOf src ∧ t.link.lanes.repair = s.link.lanes.repair) ∧
      (∀ m : StationNo, m ≠ src → t.repairOf m = s.repairOf m) ∧
      (t.cadenceReference = some src → t.ann.phase = b.phase) ∧
      (t.cadenceReference ≠ some src → t.ann.phase = s.ann.phase) ∧
      t.control = s.control ∧ t.monitor = s.monitor ∧ t.service = s.service ∧ t.pins = s.pins

/-- R49, R128, R132, R142, R147, R178, R179: a LEAVE makes its source LEFT at a receiver, which keeps its entries in their places, stale
and otherwise as they were, keeps the slots, and withdraws it from the waiting requests and from the awaited set, and, emptied by it in
JOINING, that set takes the station to RUNNING; at its sender it ends DEPARTING, and the lanes are emptied (R14, R69, R99). The own
point 16 may be locally delivered beside (R12, R17). -/
def Obligations.LeaveEndsMembership : Prop :=
  (∀ (s : State) (src : StationNo) (c : LeaveCause), s.receives = true → s.me ≠ some src →
    ∃ t, exec (.leaveDelivered src c) s = .next t ∧
      t.member src = { s.member src with state := .left, silence := .stopped } ∧
      (∀ m : StationNo, m ≠ src → t.member m = s.member m) ∧
      s.leavesTable { s.table with entries := staleAs true src s.table.entries } t ∧ t.repairOf src = .atReset ∧
      s.withdraws src t ∧
      s.awaitsNoMore src t ∧ t.monitor = s.monitor ∧ t.service = s.service ∧ t.pins = s.pins) ∧
  ∀ (s : State) (n : StationNo) (c : LeaveCause), s.active = true → s.control.station = .departing →
    s.link.sending = some { lane := .roll, frame := { source := n, payload := .leave c } } →
    ∃ t, exec (.leaveDelivered n c) s = .next t ∧ s.emptiesLanes s.link.lanes t ∧
      (s.control.supply = .low → t.control.station = .departed ∧ t.link.lanes = .empty) ∧
      (s.control.supply = .normal →
        t.control.station = .joining ∧ t.control.joinCause = some .supplyRecovered ∧
        t.link.lanes = { Lanes.empty with roll := some (freshRoll .join) })

/-- R99, R100, R101: a delivered frame with the own number that the station did not send is handed to no block; in the four objecting
states the station enters HALTED with its lanes emptied (R14, R69). -/
def Obligations.DuplicateNumberHalts : Prop :=
  ∀ (s : State) (f : Frame), s.receives = true → s.me = some f.source → s.anyCause = s.engine.healthLevel →
    ∃ t, exec (deliveryOf f) s = .next t ∧ t.link.receivedGood = s.link.receivedGood.bump ∧
      t.roster.entries = s.roster.entries ∧
      (s.control.station.objects = true →
        t.control.station = .halted ∧ t.link.lanes = .empty ∧ s.emptiesLanes s.link.lanes t) ∧
      (s.control.station.objects = false →
        t.control = s.control ∧ t.table = s.table ∧ t.engine = s.engine ∧ t.repair = s.repair ∧
        t.link.lanes = s.link.lanes) ∧
      t.monitor = s.monitor ∧ t.service = s.service ∧ t.pins = s.pins

/-! ### The Service Port (R182 to R187) -/

/-- R182, R183, R186, R187: a byte starts or extends a request, or is discarded and counted while a response is in progress; the gap
timer, a bad stop bit and the end of a response, each with the owed OK that may follow it; what drives STX; and a port that has not
started discards what arrives. -/
def Obligations.ServiceReceiverTakesBytes : Prop :=
  (∀ s : State,
    (s.control.inReset = true → s.stxPin = .released) ∧
    (s.control.inReset = false → s.control.station = .starting → s.stxPin = .idle) ∧
    (s.portLive = true → s.service.response = none → s.stxPin = .idle) ∧
    (∀ bytes, s.portLive = true → s.service.response = some bytes → s.stxPin = .sending bytes)) ∧
  (∀ (s : State) (b : Byte), s.portLive = false → exec (.serviceByteReceived b) s = .next s) ∧
  ∀ s : State, s.portLive = true →
    (∀ (b : Byte) (r : List Byte), s.service.response = some r →
      exec (.serviceByteReceived b) s = .next (s.withService { s.service with errors := s.service.errors.bump })) ∧
    (∀ b : Byte, s.service.response = none → s.service.rx = none →
      exec (.serviceByteReceived b) s =
        .next (s.withService
          { s.service with
            rx := some { kind := b, lengthHigh := 0#8, lengthLow := 0#8, kept := [], sum := b, count := 1 },
            gap := .running 100 0 })) ∧
    (∀ (b : Byte) (r : RxBuffer), s.service.response = none → s.service.rx = some r → (r.add b).complete = false →
      exec (.serviceByteReceived b) s =
        .next (s.withService { s.service with rx := some (r.add b), gap := .running 100 0 })) ∧
    (∀ (b : Byte) (r : RxBuffer), s.service.response = none → s.service.rx = some r → (r.add b).complete = true →
      exec (.serviceByteReceived b) s =
        .next (takeRequest (r.add b).request (s.withService { s.service with rx := none, gap := .stopped }))) ∧
    (∀ c : Instr, (c = .serviceGapTimerExpiry ∧ s.service.rx ≠ none ∧ s.service.gap.isRunning = true) ∨
        c = .serviceFramingFault →
      (s.service.answerOwed = true ∧ s.control.storeWrite = none ∧ s.service.response = none →
        exec c s =
          .next (s.withService
            { rx := none, gap := .stopped, response := some [6#8, 0#8, 0#8, 0#8, 0xFA#8], answerOwed := false,
              errors := s.service.errors.bump })) ∧
      (¬(s.service.answerOwed = true ∧ s.control.storeWrite = none ∧ s.service.response = none) →
        exec c s =
          .next (s.withService { s.service with rx := none, gap := .stopped, errors := s.service.errors.bump }))) ∧
    (s.service.response ≠ none →
      (s.service.answerOwed = true ∧ s.control.storeWrite = none ∧ s.service.rx = none →
        exec .responseComplete s =
          .next (s.withService
            { s.service with response := some [6#8, 0#8, 0#8, 0#8, 0xFA#8], answerOwed := false })) ∧
      (¬(s.service.answerOwed = true ∧ s.control.storeWrite = none ∧ s.service.rx = none) →
        exec .responseComplete s = .next (s.withService { s.service with response := none })))

/-- R115, R116, R184, R185: a read request that reaches an idle port is judged by the tests of R184 in their order: BAD_CHECK, BUSY in
STORING, OK with the state it names, INVALID with BAD_FORMAT for a payload; it changes nothing but the port. A request of an unknown
kind is answered UNKNOWN_REQUEST, or BAD_CHECK. Every response is framed by its header and its check; the payloads of STATUS,
READ_TABLE, READ_ROSTER and READ_POINTS have their lengths, with each field in its place and under its code. -/
def Obligations.RequestsAreAnswered : Prop :=
  (∀ (kind : Byte) (r : Result) (payload : List Byte),
    (∃ check,
      responseBytes kind r payload =
        [kind, resultCode r, BitVec.ofNat 8 (payload.length / 256), BitVec.ofNat 8 payload.length] ++ payload ++ [check]) ∧
    byteSum (responseBytes kind r payload) = 0#8) ∧
  [Result.ok, .badCheck, .unknownRequest, .busy, .locked, .alreadySet, .invalid].map resultCode =
    [0#8, 1#8, 2#8, 3#8, 4#8, 5#8, 6#8] ∧
  [StationState.starting, .setupWait, .storing, .listening, .joining, .running, .departing, .departed, .isolated, .halted,
      .unconfigured].map stationCode =
    [0#8, 1#8, 2#8, 3#8, 4#8, 5#8, 6#8, 7#8, 8#8, 9#8, 10#8] ∧
  [Reason.none, .storeBlank, .storeCorrupt, .strapInvalid].map unconfiguredCode = [0#8, 1#8, 2#8, 3#8] ∧
  [ResetCause.powerOn, .resetPin, .supplyLow].map resetCauseCode = [0#8, 1#8, 2#8] ∧
  [Membership.absent, .present, .lost, .left, .self].map membershipCode = [0#8, 1#8, 2#8, 3#8, 4#8] ∧
  [MarkState.none, .pending, .pendingAgain].map markCode = [0#8, 1#8, 2#8] ∧
  [Sensitivity.maintained, .momentary].map sensitivityCode = [0#8, 1#8] ∧
  [SeqState.normal, .alert, .acked, .unackCleared, .ringback].map seqCode = [0#8, 1#8, 2#8, 3#8, 4#8] ∧
  [JoinCause.powerOn, .resetPin, .supplyLow, .isolation, .supplyRecovered].map joinCauseCode = [0#8, 1#8, 2#8, 3#8, 4#8] ∧
  [Interval.ms100, .ms250, .ms500, .ms1000].map intervalCode = [0#8, 1#8, 2#8, 3#8] ∧
  (∀ s : State,
    let yes : Bool → Byte := fun b => if b then 1#8 else 0#8
    let count : Counter → List Byte := fun c => [BitVec.ofNat 8 (c.toNat / 256), BitVec.ofNat 8 c.toNat]
    let slot : Option Condition → List Byte := fun h =>
      match h with
      | some c => [BitVec.ofNat 8 c.owner.number, BitVec.ofNat 8 c.point.val]
      | none => [0#8, 0#8]
    let entries := s.table.entries
    (s.statusPayload.length = 32 ∧
      s.statusPayload =
        [stationCode s.control.station, BitVec.ofNat 8 s.control.number.toNat, unconfiguredCode s.control.reason,
          resetCauseCode s.control.resetCause, s.control.restartCount] ++
        [s.lampFault, s.table.tableOverflow, s.link.degraded, s.repairFailed, s.table.overflow].map yes ++
        [s.link.delivered, s.link.objected, s.link.collided, s.link.arbLost, s.link.undelivered, s.link.receivedGood,
          s.link.receivedBad, s.engine.itemsRefused, s.table.dropped, s.ann.operatorDropped, s.service.errors].flatMap
            count) ∧
    (s.tablePayload.length = 17 + 8 * entries.length ∧ s.tablePayload[0]? = some (BitVec.ofNat 8 entries.length) ∧
      (∀ (i : Nat) (e : Entry), entries[i]? = some e →
        (s.tablePayload.drop (1 + 8 * i)).take 8 =
          [BitVec.ofNat 8 e.owner.number, BitVec.ofNat 8 e.point.val, BitVec.ofNat 8 e.group.val, seqCode (seqOf e.state),
            e.revision, yes e.foEligible, yes e.audible, yes e.stale]) ∧
      ∀ g : GroupNo,
        (s.tablePayload.drop (1 + 8 * entries.length + 2 * g.val)).take 2 = slot s.table.slots[g]) ∧
    (s.rosterPayload.length = 336 ∧
      ∀ n : StationNo,
        (s.rosterPayload.drop (7 * (n.number - 1))).take 7 =
          membershipCode (s.member n).state ::
            (match (s.member n).restartCount with
              | some x => [1#8, x]
              | none => [0#8, 0#8]) ++
            (match (s.member n).joinCause with
              | some x => [1#8, joinCauseCode x]
              | none => [0#8, 0#8]) ++
            [intervalCode (s.member n).interval, yes (s.member n).silence.isRunning]) ∧
    s.pointsPayload.length = 135 ∧
      (∀ p : PointNo,
        (s.pointsPayload.drop (7 * p.val)).take 7 =
          [BitVec.ofNat 8 p.val, yes (s.point p).enabled, BitVec.ofNat 8 (s.point p).group.val,
            sensitivityCode (s.point p).sensitivity, seqCode (s.point p).state, (s.point p).revision,
            markCode (s.reportMark p)]) ∧
      ∀ i : LineNo, s.pointsPayload[119 + i.val]? = some (yes (s.input i).qualified)) ∧
  ∀ (s : State) (body : RequestBody), s.portLive = true → s.service.response = none → s.service.rx = none →
    body.wellFormed = true →
    (∀ (c : Instr) (kind : Byte) (payload : List Byte),
      (c, kind, payload) ∈
        [(Instr.status body, 1#8, s.statusPayload), (.readTable body, 2#8, s.tablePayload),
          (.readRoster body, 3#8, s.rosterPayload), (.readPoints body, 4#8, s.pointsPayload),
          (.readSetup body, 5#8, s.control.storeImage.toList)] →
      exec c s =
        .next (s.withService
          { s.service with
            rx := none, gap := .stopped,
            response := some
              (if byteSum (requestBytes kind body) ≠ 0#8 then responseBytes kind .badCheck []
               else if s.control.station = .storing ∧ kind ≠ 1#8 then responseBytes kind .busy []
               else if body.payload = [] then responseBytes kind .ok payload
               else responseBytes kind .invalid [1#8, 0#8]) })) ∧
    ∀ kind : Byte,
      (byteSum (requestBytes kind body) = 0#8 → (kind = 0#8 ∨ 6 < kind.toNat) →
        exec (.unknownRequestKind kind body) s =
          .next (s.withService
            { s.service with rx := none, gap := .stopped, response := some (responseBytes kind .unknownRequest []) })) ∧
      (byteSum (requestBytes kind body) ≠ 0#8 →
        exec (.unknownRequestKind kind body) s =
          .next (s.withService
            { s.service with rx := none, gap := .stopped, response := some (responseBytes kind .badCheck []) }))

/-- R171 to R173, R184: a SETUP that reaches an idle port is answered BAD_CHECK or BUSY by the tests of R184, or judged in order, and an
accepted one starts the write; and the tests of an image in their order, over its bytes, with the reason codes. -/
def Obligations.SetupIsJudgedInOrder : Prop :=
  (∀ (s : State) (body : RequestBody), s.portLive = true → s.service.response = none → s.service.rx = none →
    body.wellFormed = true →
    ∃ t, exec (.setup body) s = .next t ∧
      (byteSum (requestBytes 6#8 body) ≠ 0#8 →
        t.control = s.control ∧ t.service.response = some (responseBytes 6#8 .badCheck [])) ∧
      (byteSum (requestBytes 6#8 body) = 0#8 → s.control.station = .storing →
        t.control = s.control ∧ t.service.response = some (responseBytes 6#8 .busy [])) ∧
      (byteSum (requestBytes 6#8 body) = 0#8 → s.control.station ≠ .storing →
        (s.control.setupAccepted = true →
          t.control = s.control ∧ t.service.response = some (responseBytes 6#8 .alreadySet [])) ∧
        (s.control.setupAccepted = false → s.control.station ≠ .setupWait →
          t.control = s.control ∧ t.service.response = some (responseBytes 6#8 .locked [])) ∧
        (s.control.setupAccepted = false → s.control.station = .setupWait → body.payload.length ≠ 96 →
          t.control = s.control ∧ t.service.response = some (responseBytes 6#8 .invalid [1#8, 0#8])) ∧
        (∀ img : Image, s.control.setupAccepted = false → s.control.station = .setupWait → img.toList = body.payload →
          (∀ r d, imageRefusal? img = some (r, d) →
            t.control = s.control ∧ t.service.response = some (responseBytes 6#8 .invalid [reasonCode r, d])) ∧
          (imageRefusal? img = none →
            t.control =
              { s.control with
                setupAccepted := true, storeStatus := .corrupt, storeWrite := some img, station := .storing } ∧
            t.service.answerOwed = true ∧ t.service.response = none))) ∧
      t.service.rx = none ∧ t.service.gap = .stopped ∧ t.service.errors = s.service.errors ∧
      t.engine = s.engine ∧ t.table = s.table ∧ t.link = s.link ∧ t.roster = s.roster ∧ t.pins = s.pins) ∧
  [InvalidReason.badFormat, .badCheck, .badRate, .badInterval, .momentaryNeedsLockin, .badOutput, .badGroup].map reasonCode =
    [1#8, 2#8, 3#8, 4#8, 5#8, 6#8, 7#8] ∧
  ∀ img : Image,
    let ok2 := crc16 (img.toList.take 94) = img[94] ++ img[95]
    let ok3 := img[0].toNat = 1
    let ok4 := img[1].toNat ≤ 2
    let ok5 := img[2].toNat ≤ 3
    let ok6 := img[3].toNat ≤ 1 ∧ (∀ g : GroupNo, (img[6 + g.val]).toNat < 16) ∧
      ∀ n : LineNo, (img[14 + 2 * n.val]).toNat < 32
    let ok7 := img[5].toNat ≤ 7 ∧ ∀ n : LineNo, (img[15 + 2 * n.val]).toNat ≤ 7
    let faulty : LineNo → Prop := fun k =>
      let kind := (img[46 + 3 * k.val]).toNat % 16
      let first := (img[47 + 3 * k.val]).toNat
      let second := (img[48 + 3 * k.val]).toNat
      8 ≤ kind ∨ (img[46 + 3 * k.val]).toNat / 16 % 8 ≠ 0 ∨
        (kind = 1 ∧ (first = 0 ∨ 48 < first ∨ 16 < second)) ∨ (kind = 2 ∧ (7 < first ∨ second ≠ 0)) ∨
        (kind ≠ 1 ∧ kind ≠ 2 ∧ (first ≠ 0 ∨ second ≠ 0))
    let lacksLockin : LineNo → Prop := fun n =>
      (img[14 + 2 * n.val]).getLsbD 0 = true ∧ (img[14 + 2 * n.val]).getLsbD 2 = true ∧
        ∃ g : GroupNo, (img[15 + 2 * n.val]).toNat = g.val ∧ (img[6 + g.val]).getLsbD 0 = false
    (imageValid img = true ↔ imageRefusal? img = none) ∧
    (¬ok2 → imageRefusal? img = some (.badCheck, 0#8)) ∧
    (ok2 → ¬ok3 → imageRefusal? img = some (.badFormat, 0#8)) ∧
    (ok2 → ok3 → ¬ok4 → imageRefusal? img = some (.badRate, 0#8)) ∧
    (ok2 → ok3 → ok4 → ¬ok5 → imageRefusal? img = some (.badInterval, 0#8)) ∧
    (ok2 → ok3 → ok4 → ok5 → ¬ok6 → imageRefusal? img = some (.badFormat, 0#8)) ∧
    (ok2 → ok3 → ok4 → ok5 → ok6 → ¬ok7 → imageRefusal? img = some (.badGroup, 0#8)) ∧
    (ok2 → ok3 → ok4 → ok5 → ok6 → ok7 →
      (∀ k, faulty k → (∀ j, j < k → ¬faulty j) → imageRefusal? img = some (.badOutput, byteOf k.val)) ∧
      ((∀ k, ¬faulty k) →
        (∀ n, lacksLockin n → (∀ j, j < n → ¬lacksLockin j) →
          imageRefusal? img = some (.momentaryNeedsLockin, byteOf n.val)) ∧
        ((∀ n, ¬lacksLockin n) → imageRefusal? img = none)))

/-! ### The laws of the device -/

/-- R34, R51, R55, R159, R17: every step keeps the laws of the Alarm Table, the first-out slots, OVERFLOW and the horn latch, and the
health cause monitor in step with the causes. -/
def Obligations.EveryStepKeepsTableLaws : Prop := ∀ s t : State, s.healthInv → step s = .next t → t.healthInv

/-- R90, R92, R93, R65: every step keeps the laws of the lanes, the count and what is sent. -/
def Obligations.EveryStepKeepsLinkLaws : Prop := ∀ s t : State, s.linkInv → step s = .next t → t.linkInv

/-- R96, R104 to R111, R65: every step keeps what makes each sent frame well formed with this station as its source. -/
def Obligations.EveryStepKeepsSentFramesGood : Prop := ∀ s t : State, s.frameInv → step s = .next t → t.frameInv

/-- R118: every step keeps SELF on the own entry and off every other. -/
def Obligations.EveryStepKeepsSelfEntry : Prop := ∀ s t : State, s.selfInv → step s = .next t → t.selfInv

/-- R4, R10: every step keeps the law of the sequence states and the agreement of level and state. -/
def Obligations.EveryStepKeepsSequenceLaw : Prop := ∀ s t : State, s.sequenceInv → step s = .next t → t.sequenceInv

/-- The five invariants hold right after reset. -/
def Obligations.LawsHoldAtReset : Prop :=
  State.reset.healthInv ∧ State.reset.linkInv ∧ State.reset.frameInv ∧ State.reset.selfInv ∧ State.reset.sequenceInv

/-- R173: the stored image changes only by a completed write or by a reset that interrupts one, and the store status only at an
acceptance and at a completion. -/
def Obligations.StoreChangesOnlyByTheWrite : Prop :=
  ∀ (c : Instr) (s t : State), exec c s = .next t →
    (t.control.storeImage ≠ s.control.storeImage →
      s.control.storeWrite ≠ none ∧ (c = .storeWriteComplete ∨ c = .powerOn ∨ c = .resetPin ∨ c = .supplyLow)) ∧
    (t.control.storeStatus ≠ s.control.storeStatus →
      (c = .storeWriteComplete ∧ t.control.storeStatus = .valid) ∨
      (s.control.station = .setupWait ∧ t.control.storeStatus = .corrupt ∧ t.control.setupAccepted = true))

/-! ### The frame formats (R102 to R112) -/

/-- R82, R102 to R112: a receiver that senses the bytes of a good frame finds that frame, with every field as it was sent; and it finds
a frame in no other bytes: every byte sequence that is not the layout of a well-formed frame is corrupt. -/
def Obligations.GoodFrameReadsBack : Prop :=
  (∀ f : Frame, f.wellFormed = true → judge (onMedium f) = some f) ∧
  ∀ (received : List ReceivedByte) (f : Frame), judge received = some f → received = onMedium f ∧ f.wellFormed = true

/-- R103, R104: the check value of the spec's example, and the bytes of three frames written out from the layout. -/
def Obligations.FrameBytesFollowTheLayout : Prop :=
  crc16 [0x31#8, 0x32#8, 0x33#8, 0x34#8, 0x35#8, 0x36#8, 0x37#8, 0x38#8, 0x39#8] = 0x29B1#16 ∧
  checkedBytes { source := station 4, payload := .report ⟨2, .alert, 1#8, 1, true, true⟩ } =
    [0x04#8, 0x01#8, 0x04#8, 0x02#8, 0x01#8, 0x01#8, 0x19#8] ∧
  checkedBytes
      { source := station 7,
        payload := .dump ⟨2#8, [⟨1, .alert, 14#8, 0, true, true, true⟩, ⟨9, .ringback, 3#8, 2, false, true, false⟩]⟩ } =
    [0x87#8, 0x04#8, 0x0A#8, 0x02#8, 0x02#8, 0x01#8, 0x01#8, 0x0E#8, 0x38#8, 0x09#8, 0x04#8, 0x03#8, 0x12#8] ∧
  checkedBytes { source := station 18, payload := .leave .supplyLow } = [0xD2#8, 0x07#8, 0x01#8, 0x01#8]
end

