-- ==== Sys2Proof/Laws/State.lean ====
section
/-! SUPPORT. One lemma per field per update of the state, true by `rfl`, and the updates of one record as updates of its block. -/

namespace Sys2Proof.Machine

/-! ### The updates of a block -/

@[simp] theorem withControl_control (s : State) (x) : (s.withControl x).control = x := rfl
@[simp] theorem withControl_engine (s : State) (x) : (s.withControl x).engine = s.engine := rfl
@[simp] theorem withControl_monitor (s : State) (x) : (s.withControl x).monitor = s.monitor := rfl
@[simp] theorem withControl_table (s : State) (x) : (s.withControl x).table = s.table := rfl
@[simp] theorem withControl_ann (s : State) (x) : (s.withControl x).ann = s.ann := rfl
@[simp] theorem withControl_link (s : State) (x) : (s.withControl x).link = s.link := rfl
@[simp] theorem withControl_roster (s : State) (x) : (s.withControl x).roster = s.roster := rfl
@[simp] theorem withControl_repair (s : State) (x) : (s.withControl x).repair = s.repair := rfl
@[simp] theorem withControl_service (s : State) (x) : (s.withControl x).service = s.service := rfl
@[simp] theorem withControl_pins (s : State) (x) : (s.withControl x).pins = s.pins := rfl
@[simp] theorem withControl_draws (s : State) (x) : (s.withControl x).draws = s.draws := rfl
@[simp] theorem withControl_pending (s : State) (x) : (s.withControl x).pending = s.pending := rfl

@[simp] theorem withEngine_control (s : State) (x) : (s.withEngine x).control = s.control := rfl
@[simp] theorem withEngine_engine (s : State) (x) : (s.withEngine x).engine = x := rfl
@[simp] theorem withEngine_monitor (s : State) (x) : (s.withEngine x).monitor = s.monitor := rfl
@[simp] theorem withEngine_table (s : State) (x) : (s.withEngine x).table = s.table := rfl
@[simp] theorem withEngine_ann (s : State) (x) : (s.withEngine x).ann = s.ann := rfl
@[simp] theorem withEngine_link (s : State) (x) : (s.withEngine x).link = s.link := rfl
@[simp] theorem withEngine_roster (s : State) (x) : (s.withEngine x).roster = s.roster := rfl
@[simp] theorem withEngine_repair (s : State) (x) : (s.withEngine x).repair = s.repair := rfl
@[simp] theorem withEngine_service (s : State) (x) : (s.withEngine x).service = s.service := rfl
@[simp] theorem withEngine_pins (s : State) (x) : (s.withEngine x).pins = s.pins := rfl
@[simp] theorem withEngine_draws (s : State) (x) : (s.withEngine x).draws = s.draws := rfl
@[simp] theorem withEngine_pending (s : State) (x) : (s.withEngine x).pending = s.pending := rfl

@[simp] theorem withMonitor_control (s : State) (x) : (s.withMonitor x).control = s.control := rfl
@[simp] theorem withMonitor_engine (s : State) (x) : (s.withMonitor x).engine = s.engine := rfl
@[simp] theorem withMonitor_monitor (s : State) (x) : (s.withMonitor x).monitor = x := rfl
@[simp] theorem withMonitor_table (s : State) (x) : (s.withMonitor x).table = s.table := rfl
@[simp] theorem withMonitor_ann (s : State) (x) : (s.withMonitor x).ann = s.ann := rfl
@[simp] theorem withMonitor_link (s : State) (x) : (s.withMonitor x).link = s.link := rfl
@[simp] theorem withMonitor_roster (s : State) (x) : (s.withMonitor x).roster = s.roster := rfl
@[simp] theorem withMonitor_repair (s : State) (x) : (s.withMonitor x).repair = s.repair := rfl
@[simp] theorem withMonitor_service (s : State) (x) : (s.withMonitor x).service = s.service := rfl
@[simp] theorem withMonitor_pins (s : State) (x) : (s.withMonitor x).pins = s.pins := rfl
@[simp] theorem withMonitor_draws (s : State) (x) : (s.withMonitor x).draws = s.draws := rfl
@[simp] theorem withMonitor_pending (s : State) (x) : (s.withMonitor x).pending = s.pending := rfl

@[simp] theorem withTable_control (s : State) (x) : (s.withTable x).control = s.control := rfl
@[simp] theorem withTable_engine (s : State) (x) : (s.withTable x).engine = s.engine := rfl
@[simp] theorem withTable_monitor (s : State) (x) : (s.withTable x).monitor = s.monitor := rfl
@[simp] theorem withTable_table (s : State) (x) : (s.withTable x).table = x := rfl
@[simp] theorem withTable_ann (s : State) (x) : (s.withTable x).ann = s.ann := rfl
@[simp] theorem withTable_link (s : State) (x) : (s.withTable x).link = s.link := rfl
@[simp] theorem withTable_roster (s : State) (x) : (s.withTable x).roster = s.roster := rfl
@[simp] theorem withTable_repair (s : State) (x) : (s.withTable x).repair = s.repair := rfl
@[simp] theorem withTable_service (s : State) (x) : (s.withTable x).service = s.service := rfl
@[simp] theorem withTable_pins (s : State) (x) : (s.withTable x).pins = s.pins := rfl
@[simp] theorem withTable_draws (s : State) (x) : (s.withTable x).draws = s.draws := rfl
@[simp] theorem withTable_pending (s : State) (x) : (s.withTable x).pending = s.pending := rfl

@[simp] theorem withAnn_control (s : State) (x) : (s.withAnn x).control = s.control := rfl
@[simp] theorem withAnn_engine (s : State) (x) : (s.withAnn x).engine = s.engine := rfl
@[simp] theorem withAnn_monitor (s : State) (x) : (s.withAnn x).monitor = s.monitor := rfl
@[simp] theorem withAnn_table (s : State) (x) : (s.withAnn x).table = s.table := rfl
@[simp] theorem withAnn_ann (s : State) (x) : (s.withAnn x).ann = x := rfl
@[simp] theorem withAnn_link (s : State) (x) : (s.withAnn x).link = s.link := rfl
@[simp] theorem withAnn_roster (s : State) (x) : (s.withAnn x).roster = s.roster := rfl
@[simp] theorem withAnn_repair (s : State) (x) : (s.withAnn x).repair = s.repair := rfl
@[simp] theorem withAnn_service (s : State) (x) : (s.withAnn x).service = s.service := rfl
@[simp] theorem withAnn_pins (s : State) (x) : (s.withAnn x).pins = s.pins := rfl
@[simp] theorem withAnn_draws (s : State) (x) : (s.withAnn x).draws = s.draws := rfl
@[simp] theorem withAnn_pending (s : State) (x) : (s.withAnn x).pending = s.pending := rfl

@[simp] theorem withLink_control (s : State) (x) : (s.withLink x).control = s.control := rfl
@[simp] theorem withLink_engine (s : State) (x) : (s.withLink x).engine = s.engine := rfl
@[simp] theorem withLink_monitor (s : State) (x) : (s.withLink x).monitor = s.monitor := rfl
@[simp] theorem withLink_table (s : State) (x) : (s.withLink x).table = s.table := rfl
@[simp] theorem withLink_ann (s : State) (x) : (s.withLink x).ann = s.ann := rfl
@[simp] theorem withLink_link (s : State) (x) : (s.withLink x).link = x := rfl
@[simp] theorem withLink_roster (s : State) (x) : (s.withLink x).roster = s.roster := rfl
@[simp] theorem withLink_repair (s : State) (x) : (s.withLink x).repair = s.repair := rfl
@[simp] theorem withLink_service (s : State) (x) : (s.withLink x).service = s.service := rfl
@[simp] theorem withLink_pins (s : State) (x) : (s.withLink x).pins = s.pins := rfl
@[simp] theorem withLink_draws (s : State) (x) : (s.withLink x).draws = s.draws := rfl
@[simp] theorem withLink_pending (s : State) (x) : (s.withLink x).pending = s.pending := rfl

@[simp] theorem withRoster_control (s : State) (x) : (s.withRoster x).control = s.control := rfl
@[simp] theorem withRoster_engine (s : State) (x) : (s.withRoster x).engine = s.engine := rfl
@[simp] theorem withRoster_monitor (s : State) (x) : (s.withRoster x).monitor = s.monitor := rfl
@[simp] theorem withRoster_table (s : State) (x) : (s.withRoster x).table = s.table := rfl
@[simp] theorem withRoster_ann (s : State) (x) : (s.withRoster x).ann = s.ann := rfl
@[simp] theorem withRoster_link (s : State) (x) : (s.withRoster x).link = s.link := rfl
@[simp] theorem withRoster_roster (s : State) (x) : (s.withRoster x).roster = x := rfl
@[simp] theorem withRoster_repair (s : State) (x) : (s.withRoster x).repair = s.repair := rfl
@[simp] theorem withRoster_service (s : State) (x) : (s.withRoster x).service = s.service := rfl
@[simp] theorem withRoster_pins (s : State) (x) : (s.withRoster x).pins = s.pins := rfl
@[simp] theorem withRoster_draws (s : State) (x) : (s.withRoster x).draws = s.draws := rfl
@[simp] theorem withRoster_pending (s : State) (x) : (s.withRoster x).pending = s.pending := rfl

@[simp] theorem withRepair_control (s : State) (x) : (s.withRepair x).control = s.control := rfl
@[simp] theorem withRepair_engine (s : State) (x) : (s.withRepair x).engine = s.engine := rfl
@[simp] theorem withRepair_monitor (s : State) (x) : (s.withRepair x).monitor = s.monitor := rfl
@[simp] theorem withRepair_table (s : State) (x) : (s.withRepair x).table = s.table := rfl
@[simp] theorem withRepair_ann (s : State) (x) : (s.withRepair x).ann = s.ann := rfl
@[simp] theorem withRepair_link (s : State) (x) : (s.withRepair x).link = s.link := rfl
@[simp] theorem withRepair_roster (s : State) (x) : (s.withRepair x).roster = s.roster := rfl
@[simp] theorem withRepair_repair (s : State) (x) : (s.withRepair x).repair = x := rfl
@[simp] theorem withRepair_service (s : State) (x) : (s.withRepair x).service = s.service := rfl
@[simp] theorem withRepair_pins (s : State) (x) : (s.withRepair x).pins = s.pins := rfl
@[simp] theorem withRepair_draws (s : State) (x) : (s.withRepair x).draws = s.draws := rfl
@[simp] theorem withRepair_pending (s : State) (x) : (s.withRepair x).pending = s.pending := rfl

@[simp] theorem withService_control (s : State) (x) : (s.withService x).control = s.control := rfl
@[simp] theorem withService_engine (s : State) (x) : (s.withService x).engine = s.engine := rfl
@[simp] theorem withService_monitor (s : State) (x) : (s.withService x).monitor = s.monitor := rfl
@[simp] theorem withService_table (s : State) (x) : (s.withService x).table = s.table := rfl
@[simp] theorem withService_ann (s : State) (x) : (s.withService x).ann = s.ann := rfl
@[simp] theorem withService_link (s : State) (x) : (s.withService x).link = s.link := rfl
@[simp] theorem withService_roster (s : State) (x) : (s.withService x).roster = s.roster := rfl
@[simp] theorem withService_repair (s : State) (x) : (s.withService x).repair = s.repair := rfl
@[simp] theorem withService_service (s : State) (x) : (s.withService x).service = x := rfl
@[simp] theorem withService_pins (s : State) (x) : (s.withService x).pins = s.pins := rfl
@[simp] theorem withService_draws (s : State) (x) : (s.withService x).draws = s.draws := rfl
@[simp] theorem withService_pending (s : State) (x) : (s.withService x).pending = s.pending := rfl

@[simp] theorem withPins_control (s : State) (x) : (s.withPins x).control = s.control := rfl
@[simp] theorem withPins_engine (s : State) (x) : (s.withPins x).engine = s.engine := rfl
@[simp] theorem withPins_monitor (s : State) (x) : (s.withPins x).monitor = s.monitor := rfl
@[simp] theorem withPins_table (s : State) (x) : (s.withPins x).table = s.table := rfl
@[simp] theorem withPins_ann (s : State) (x) : (s.withPins x).ann = s.ann := rfl
@[simp] theorem withPins_link (s : State) (x) : (s.withPins x).link = s.link := rfl
@[simp] theorem withPins_roster (s : State) (x) : (s.withPins x).roster = s.roster := rfl
@[simp] theorem withPins_repair (s : State) (x) : (s.withPins x).repair = s.repair := rfl
@[simp] theorem withPins_service (s : State) (x) : (s.withPins x).service = s.service := rfl
@[simp] theorem withPins_pins (s : State) (x) : (s.withPins x).pins = x := rfl
@[simp] theorem withPins_draws (s : State) (x) : (s.withPins x).draws = s.draws := rfl
@[simp] theorem withPins_pending (s : State) (x) : (s.withPins x).pending = s.pending := rfl

@[simp] theorem withPending_control (s : State) (x) : (s.withPending x).control = s.control := rfl
@[simp] theorem withPending_engine (s : State) (x) : (s.withPending x).engine = s.engine := rfl
@[simp] theorem withPending_monitor (s : State) (x) : (s.withPending x).monitor = s.monitor := rfl
@[simp] theorem withPending_table (s : State) (x) : (s.withPending x).table = s.table := rfl
@[simp] theorem withPending_ann (s : State) (x) : (s.withPending x).ann = s.ann := rfl
@[simp] theorem withPending_link (s : State) (x) : (s.withPending x).link = s.link := rfl
@[simp] theorem withPending_roster (s : State) (x) : (s.withPending x).roster = s.roster := rfl
@[simp] theorem withPending_repair (s : State) (x) : (s.withPending x).repair = s.repair := rfl
@[simp] theorem withPending_service (s : State) (x) : (s.withPending x).service = s.service := rfl
@[simp] theorem withPending_pins (s : State) (x) : (s.withPending x).pins = s.pins := rfl
@[simp] theorem withPending_draws (s : State) (x) : (s.withPending x).draws = s.draws := rfl
@[simp] theorem withPending_pending (s : State) (x) : (s.withPending x).pending = x := rfl

@[simp] theorem drawn_control (s : State) : s.drawn.control = s.control := rfl
@[simp] theorem drawn_engine (s : State) : s.drawn.engine = s.engine := rfl
@[simp] theorem drawn_monitor (s : State) : s.drawn.monitor = s.monitor := rfl
@[simp] theorem drawn_table (s : State) : s.drawn.table = s.table := rfl
@[simp] theorem drawn_ann (s : State) : s.drawn.ann = s.ann := rfl
@[simp] theorem drawn_link (s : State) : s.drawn.link = s.link := rfl
@[simp] theorem drawn_roster (s : State) : s.drawn.roster = s.roster := rfl
@[simp] theorem drawn_repair (s : State) : s.drawn.repair = s.repair := rfl
@[simp] theorem drawn_service (s : State) : s.drawn.service = s.service := rfl
@[simp] theorem drawn_pins (s : State) : s.drawn.pins = s.pins := rfl
@[simp] theorem drawn_draws (s : State) : s.drawn.draws = s.draws + 1 := rfl
@[simp] theorem drawn_pending (s : State) : s.drawn.pending = s.pending := rfl

/-! ### The updates of one record, as updates of its block -/

@[simp] theorem withLanes_eq (s : State) (l) : s.withLanes l = s.withLink { s.link with lanes := l } := rfl
@[simp] theorem withStation_eq (s : State) (st) : s.withStation st = s.withControl { s.control with station := st } := rfl
@[simp] theorem setPoint_eq (s : State) (p r) :
    s.setPoint p r = s.withEngine { s.engine with points := s.engine.points.set p r } := rfl
@[simp] theorem setInput_eq (s : State) (i r) :
    s.setInput i r = s.withMonitor { s.monitor with inputs := s.monitor.inputs.set i r } := rfl
@[simp] theorem setButton_eq (s : State) (k r) :
    s.setButton k r = s.withMonitor { s.monitor with buttons := s.monitor.buttons.put r k } := rfl
@[simp] theorem setMember_eq (s : State) (n e) :
    s.setMember n e = s.withRoster { s.roster with entries := s.roster.entries.set n.index e } := rfl
@[simp] theorem setRepair_eq (s : State) (n r) : s.setRepair n r = s.withRepair (s.repair.set n.index r) := rfl
@[simp] theorem setReadback_eq (s : State) (k r) :
    s.setReadback k r = s.withAnn { s.ann with readback := s.ann.readback.set k r } := rfl

/-! ### One step -/

theorem step_of_empty (s : State) (h : s.pending = []) : step s = .next s := by simp [step, h]

theorem step_of_cons (s : State) (c : Instr) (q : List Instr) (h : s.pending = c :: q) :
    step s = exec c (s.withPending q) := by simp [step, h]

end Sys2Proof.Machine
end

