-- ==== Sys2Proof/Laws/Records.lean ====
section
/-! SUPPORT. What a record reads after a record is written, and the places of stations. -/

namespace Sys2Proof.Machine

theorem vector_get_set {α : Type} {n : Nat} (v : Vector α n) (i j : Fin n) (x : α) :
    (v.set i x)[j] = if j = i then x else v[j] := by
  simp only [Fin.getElem_fin, Vector.getElem_set, Fin.ext_iff, eq_comm]

theorem stationNo_ext {m n : StationNo} (h : m.number = n.number) : m = n := by
  cases m; cases n; simp at h; subst h; rfl

theorem index_inj {m n : StationNo} (h : m.index = n.index) : m = n := by
  apply stationNo_ext
  have h1 := congrArg Fin.val h
  simp only [StationNo.index] at h1
  have := m.inRange; have := n.inRange
  omega

@[simp] theorem index_eq_iff (m n : StationNo) : m.index = n.index ↔ m = n := ⟨index_inj, fun h => h ▸ rfl⟩

@[simp] theorem ofIndex_index (n : StationNo) : StationNo.ofIndex n.index = n := by
  apply stationNo_ext
  have := n.inRange
  simp only [StationNo.ofIndex, StationNo.index]; omega

theorem mem_all (n : StationNo) : n ∈ StationNo.all :=
  List.mem_map.mpr ⟨n.index, List.mem_finRange _, ofIndex_index n⟩

theorem point_setPoint (s : State) (p q : PointNo) (r : PointRecord) :
    (s.setPoint p r).point q = if q = p then r else s.point q := vector_get_set _ _ _ _

theorem input_setInput (s : State) (i j : LineNo) (r : InputRecord) :
    (s.setInput i r).input j = if j = i then r else s.input j := vector_get_set _ _ _ _

theorem member_setMember (s : State) (m n : StationNo) (e : RosterEntry) :
    (s.setMember m e).member n = if n = m then e else s.member n := by
  have h := vector_get_set s.roster.entries m.index n.index e
  simp only [index_eq_iff] at h
  exact h

theorem repairOf_setRepair (s : State) (m n : StationNo) (r : RepairRecord) :
    (s.setRepair m r).repairOf n = if n = m then r else s.repairOf n := by
  have h := vector_get_set s.repair m.index n.index r
  simp only [index_eq_iff] at h
  exact h

theorem readbackOf_setReadback (s : State) (k j : LineNo) (r : ReadBack) :
    (s.setReadback k r).readbackOf j = if j = k then r else s.readbackOf j := vector_get_set _ _ _ _

theorem buttons_get_put (b : ButtonRecords) (r : ButtonRecord) (k j : Button) :
    (b.put r k).get j = if j = k then r else b.get j := by
  cases k <;> cases j <;> rfl

theorem pins_get_put (b : ButtonPins) (high : Bool) (k j : Button) :
    (b.put high k).get j = if j = k then high else b.get j := by
  cases k <;> cases j <;> rfl

end Sys2Proof.Machine
end

