-- ==== Sys2Proof/Laws/Frames.lean ====
section
/-! SUPPORT. What the shared operations of the Sequence Engine, the Alarm Table and the lamps leave as it is: one lemma for each block
an operation does not touch. -/

namespace Sys2Proof.Machine

@[simp] theorem takeChange_control (f : Change → Change) (s : State) : (takeChange f s).control = s.control := by unfold takeChange; dsimp only; split <;> rfl
@[simp] theorem takeChange_monitor (f : Change → Change) (s : State) : (takeChange f s).monitor = s.monitor := by unfold takeChange; dsimp only; split <;> rfl
@[simp] theorem takeChange_roster (f : Change → Change) (s : State) : (takeChange f s).roster = s.roster := by unfold takeChange; dsimp only; split <;> rfl
@[simp] theorem takeChange_service (f : Change → Change) (s : State) : (takeChange f s).service = s.service := by unfold takeChange; dsimp only; split <;> rfl
@[simp] theorem takeChange_pins (f : Change → Change) (s : State) : (takeChange f s).pins = s.pins := by unfold takeChange; dsimp only; split <;> rfl
@[simp] theorem takeChange_draws (f : Change → Change) (s : State) : (takeChange f s).draws = s.draws := by unfold takeChange; dsimp only; split <;> rfl
@[simp] theorem takeChange_pending (f : Change → Change) (s : State) : (takeChange f s).pending = s.pending := by unfold takeChange; dsimp only; split <;> rfl
@[simp] theorem takeChange_engine (f : Change → Change) (s : State) : (takeChange f s).engine = s.engine := by unfold takeChange; dsimp only; split <;> rfl
@[simp] theorem takeChange_link (f : Change → Change) (s : State) : (takeChange f s).link = s.link := by unfold takeChange; dsimp only; split <;> rfl

@[simp] theorem localDeliver_control (p : PointNo) (s : State) : (localDeliver p s).control = s.control := by unfold localDeliver; split <;> simp
@[simp] theorem localDeliver_monitor (p : PointNo) (s : State) : (localDeliver p s).monitor = s.monitor := by unfold localDeliver; split <;> simp
@[simp] theorem localDeliver_roster (p : PointNo) (s : State) : (localDeliver p s).roster = s.roster := by unfold localDeliver; split <;> simp
@[simp] theorem localDeliver_service (p : PointNo) (s : State) : (localDeliver p s).service = s.service := by unfold localDeliver; split <;> simp
@[simp] theorem localDeliver_pins (p : PointNo) (s : State) : (localDeliver p s).pins = s.pins := by unfold localDeliver; split <;> simp
@[simp] theorem localDeliver_draws (p : PointNo) (s : State) : (localDeliver p s).draws = s.draws := by unfold localDeliver; split <;> simp
@[simp] theorem localDeliver_pending (p : PointNo) (s : State) : (localDeliver p s).pending = s.pending := by unfold localDeliver; split <;> simp
@[simp] theorem localDeliver_engine (p : PointNo) (s : State) : (localDeliver p s).engine = s.engine := by unfold localDeliver; split <;> simp
@[simp] theorem localDeliver_link (p : PointNo) (s : State) : (localDeliver p s).link = s.link := by unfold localDeliver; split <;> simp

@[simp] theorem requestReport_control (p : PointNo) (s : State) : (requestReport p s).control = s.control := rfl
@[simp] theorem requestReport_monitor (p : PointNo) (s : State) : (requestReport p s).monitor = s.monitor := rfl
@[simp] theorem requestReport_roster (p : PointNo) (s : State) : (requestReport p s).roster = s.roster := rfl
@[simp] theorem requestReport_service (p : PointNo) (s : State) : (requestReport p s).service = s.service := rfl
@[simp] theorem requestReport_pins (p : PointNo) (s : State) : (requestReport p s).pins = s.pins := rfl
@[simp] theorem requestReport_draws (p : PointNo) (s : State) : (requestReport p s).draws = s.draws := rfl
@[simp] theorem requestReport_pending (p : PointNo) (s : State) : (requestReport p s).pending = s.pending := rfl
@[simp] theorem requestReport_engine (p : PointNo) (s : State) : (requestReport p s).engine = s.engine := rfl
@[simp] theorem requestReport_table (p : PointNo) (s : State) : (requestReport p s).table = s.table := rfl
@[simp] theorem requestReport_ann (p : PointNo) (s : State) : (requestReport p s).ann = s.ann := rfl
@[simp] theorem requestReport_repair (p : PointNo) (s : State) : (requestReport p s).repair = s.repair := rfl

@[simp] theorem handOver_control (p : PointNo) (s : State) : (handOver p s).control = s.control := by unfold handOver; split <;> simp
@[simp] theorem handOver_monitor (p : PointNo) (s : State) : (handOver p s).monitor = s.monitor := by unfold handOver; split <;> simp
@[simp] theorem handOver_roster (p : PointNo) (s : State) : (handOver p s).roster = s.roster := by unfold handOver; split <;> simp
@[simp] theorem handOver_service (p : PointNo) (s : State) : (handOver p s).service = s.service := by unfold handOver; split <;> simp
@[simp] theorem handOver_pins (p : PointNo) (s : State) : (handOver p s).pins = s.pins := by unfold handOver; split <;> simp
@[simp] theorem handOver_draws (p : PointNo) (s : State) : (handOver p s).draws = s.draws := by unfold handOver; split <;> simp
@[simp] theorem handOver_pending (p : PointNo) (s : State) : (handOver p s).pending = s.pending := by unfold handOver; split <;> simp
@[simp] theorem handOver_engine (p : PointNo) (s : State) : (handOver p s).engine = s.engine := by unfold handOver; split <;> simp

@[simp] theorem changePoint_control (p : PointNo) (st : SeqState) (s : State) : (changePoint p st s).control = s.control := by simp [changePoint]
@[simp] theorem changePoint_monitor (p : PointNo) (st : SeqState) (s : State) : (changePoint p st s).monitor = s.monitor := by simp [changePoint]
@[simp] theorem changePoint_roster (p : PointNo) (st : SeqState) (s : State) : (changePoint p st s).roster = s.roster := by simp [changePoint]
@[simp] theorem changePoint_service (p : PointNo) (st : SeqState) (s : State) : (changePoint p st s).service = s.service := by simp [changePoint]
@[simp] theorem changePoint_pins (p : PointNo) (st : SeqState) (s : State) : (changePoint p st s).pins = s.pins := by simp [changePoint]
@[simp] theorem changePoint_draws (p : PointNo) (st : SeqState) (s : State) : (changePoint p st s).draws = s.draws := by simp [changePoint]
@[simp] theorem changePoint_pending (p : PointNo) (st : SeqState) (s : State) : (changePoint p st s).pending = s.pending := by simp [changePoint]

@[simp] theorem fieldEvent_control (p : PointNo) (ev : FieldEvent) (s : State) : (fieldEvent p ev s).control = s.control := by unfold fieldEvent; split <;> [split <;> simp; rfl]
@[simp] theorem fieldEvent_monitor (p : PointNo) (ev : FieldEvent) (s : State) : (fieldEvent p ev s).monitor = s.monitor := by unfold fieldEvent; split <;> [split <;> simp; rfl]
@[simp] theorem fieldEvent_roster (p : PointNo) (ev : FieldEvent) (s : State) : (fieldEvent p ev s).roster = s.roster := by unfold fieldEvent; split <;> [split <;> simp; rfl]
@[simp] theorem fieldEvent_service (p : PointNo) (ev : FieldEvent) (s : State) : (fieldEvent p ev s).service = s.service := by unfold fieldEvent; split <;> [split <;> simp; rfl]
@[simp] theorem fieldEvent_pins (p : PointNo) (ev : FieldEvent) (s : State) : (fieldEvent p ev s).pins = s.pins := by unfold fieldEvent; split <;> [split <;> simp; rfl]
@[simp] theorem fieldEvent_draws (p : PointNo) (ev : FieldEvent) (s : State) : (fieldEvent p ev s).draws = s.draws := by unfold fieldEvent; split <;> [split <;> simp; rfl]
@[simp] theorem fieldEvent_pending (p : PointNo) (ev : FieldEvent) (s : State) : (fieldEvent p ev s).pending = s.pending := by unfold fieldEvent; split <;> [split <;> simp; rfl]

@[simp] theorem refuseItem_control (s : State) : (refuseItem s).control = s.control := rfl
@[simp] theorem refuseItem_monitor (s : State) : (refuseItem s).monitor = s.monitor := rfl
@[simp] theorem refuseItem_roster (s : State) : (refuseItem s).roster = s.roster := rfl
@[simp] theorem refuseItem_service (s : State) : (refuseItem s).service = s.service := rfl
@[simp] theorem refuseItem_pins (s : State) : (refuseItem s).pins = s.pins := rfl
@[simp] theorem refuseItem_draws (s : State) : (refuseItem s).draws = s.draws := rfl
@[simp] theorem refuseItem_pending (s : State) : (refuseItem s).pending = s.pending := rfl
@[simp] theorem refuseItem_table (s : State) : (refuseItem s).table = s.table := rfl
@[simp] theorem refuseItem_ann (s : State) : (refuseItem s).ann = s.ann := rfl
@[simp] theorem refuseItem_link (s : State) : (refuseItem s).link = s.link := rfl
@[simp] theorem refuseItem_repair (s : State) : (refuseItem s).repair = s.repair := rfl

@[simp] theorem takeItem_control (a : Action) (s : State) (i : Item) : (takeItem a s i).control = s.control := by unfold takeItem; split <;> simp
@[simp] theorem takeItem_monitor (a : Action) (s : State) (i : Item) : (takeItem a s i).monitor = s.monitor := by unfold takeItem; split <;> simp
@[simp] theorem takeItem_roster (a : Action) (s : State) (i : Item) : (takeItem a s i).roster = s.roster := by unfold takeItem; split <;> simp
@[simp] theorem takeItem_service (a : Action) (s : State) (i : Item) : (takeItem a s i).service = s.service := by unfold takeItem; split <;> simp
@[simp] theorem takeItem_pins (a : Action) (s : State) (i : Item) : (takeItem a s i).pins = s.pins := by unfold takeItem; split <;> simp
@[simp] theorem takeItem_draws (a : Action) (s : State) (i : Item) : (takeItem a s i).draws = s.draws := by unfold takeItem; split <;> simp
@[simp] theorem takeItem_pending (a : Action) (s : State) (i : Item) : (takeItem a s i).pending = s.pending := by unfold takeItem; split <;> simp

@[simp] theorem itemsFold_control (a : Action) (items : List Item) (s : State) : (items.foldl (takeItem a) s).control = s.control := by induction items generalizing s <;> simp_all
@[simp] theorem itemsFold_monitor (a : Action) (items : List Item) (s : State) : (items.foldl (takeItem a) s).monitor = s.monitor := by induction items generalizing s <;> simp_all
@[simp] theorem itemsFold_roster (a : Action) (items : List Item) (s : State) : (items.foldl (takeItem a) s).roster = s.roster := by induction items generalizing s <;> simp_all
@[simp] theorem itemsFold_service (a : Action) (items : List Item) (s : State) : (items.foldl (takeItem a) s).service = s.service := by induction items generalizing s <;> simp_all
@[simp] theorem itemsFold_pins (a : Action) (items : List Item) (s : State) : (items.foldl (takeItem a) s).pins = s.pins := by induction items generalizing s <;> simp_all
@[simp] theorem itemsFold_draws (a : Action) (items : List Item) (s : State) : (items.foldl (takeItem a) s).draws = s.draws := by induction items generalizing s <;> simp_all
@[simp] theorem itemsFold_pending (a : Action) (items : List Item) (s : State) : (items.foldl (takeItem a) s).pending = s.pending := by induction items generalizing s <;> simp_all

@[simp] theorem takeItems_control (a : Action) (items : List Item) (s : State) : (takeItems a items s).control = s.control := by unfold takeItems; split <;> simp
@[simp] theorem takeItems_monitor (a : Action) (items : List Item) (s : State) : (takeItems a items s).monitor = s.monitor := by unfold takeItems; split <;> simp
@[simp] theorem takeItems_roster (a : Action) (items : List Item) (s : State) : (takeItems a items s).roster = s.roster := by unfold takeItems; split <;> simp
@[simp] theorem takeItems_service (a : Action) (items : List Item) (s : State) : (takeItems a items s).service = s.service := by unfold takeItems; split <;> simp
@[simp] theorem takeItems_pins (a : Action) (items : List Item) (s : State) : (takeItems a items s).pins = s.pins := by unfold takeItems; split <;> simp
@[simp] theorem takeItems_draws (a : Action) (items : List Item) (s : State) : (takeItems a items s).draws = s.draws := by unfold takeItems; split <;> simp
@[simp] theorem takeItems_pending (a : Action) (items : List Item) (s : State) : (takeItems a items s).pending = s.pending := by unfold takeItems; split <;> simp

@[simp] theorem healthSync_control (s : State) : (healthSync s).control = s.control := by unfold healthSync; split <;> simp
@[simp] theorem healthSync_monitor (s : State) : (healthSync s).monitor = s.monitor := by unfold healthSync; split <;> simp
@[simp] theorem healthSync_roster (s : State) : (healthSync s).roster = s.roster := by unfold healthSync; split <;> simp
@[simp] theorem healthSync_service (s : State) : (healthSync s).service = s.service := by unfold healthSync; split <;> simp
@[simp] theorem healthSync_pins (s : State) : (healthSync s).pins = s.pins := by unfold healthSync; split <;> simp
@[simp] theorem healthSync_draws (s : State) : (healthSync s).draws = s.draws := by unfold healthSync; split <;> simp
@[simp] theorem healthSync_pending (s : State) : (healthSync s).pending = s.pending := by unfold healthSync; split <;> simp

@[simp] theorem causeMoment_control (o : Orders) (s : State) : (causeMoment o s).control = s.control := by unfold causeMoment; split <;> simp
@[simp] theorem causeMoment_monitor (o : Orders) (s : State) : (causeMoment o s).monitor = s.monitor := by unfold causeMoment; split <;> simp
@[simp] theorem causeMoment_roster (o : Orders) (s : State) : (causeMoment o s).roster = s.roster := by unfold causeMoment; split <;> simp
@[simp] theorem causeMoment_service (o : Orders) (s : State) : (causeMoment o s).service = s.service := by unfold causeMoment; split <;> simp
@[simp] theorem causeMoment_pins (o : Orders) (s : State) : (causeMoment o s).pins = s.pins := by unfold causeMoment; split <;> simp
@[simp] theorem causeMoment_draws (o : Orders) (s : State) : (causeMoment o s).draws = s.draws := by unfold causeMoment; split <;> simp
@[simp] theorem causeMoment_pending (o : Orders) (s : State) : (causeMoment o s).pending = s.pending := by unfold causeMoment; split <;> simp

@[simp] theorem settle_control (s : State) : (settle s).control = s.control := by unfold settle whenActive; split <;> rfl
@[simp] theorem settle_monitor (s : State) : (settle s).monitor = s.monitor := by unfold settle whenActive; split <;> rfl
@[simp] theorem settle_roster (s : State) : (settle s).roster = s.roster := by unfold settle whenActive; split <;> rfl
@[simp] theorem settle_service (s : State) : (settle s).service = s.service := by unfold settle whenActive; split <;> rfl
@[simp] theorem settle_pins (s : State) : (settle s).pins = s.pins := by unfold settle whenActive; split <;> rfl
@[simp] theorem settle_draws (s : State) : (settle s).draws = s.draws := by unfold settle whenActive; split <;> rfl
@[simp] theorem settle_pending (s : State) : (settle s).pending = s.pending := by unfold settle whenActive; split <;> rfl
@[simp] theorem settle_engine (s : State) : (settle s).engine = s.engine := by unfold settle whenActive; split <;> rfl
@[simp] theorem settle_table (s : State) : (settle s).table = s.table := by unfold settle whenActive; split <;> rfl
@[simp] theorem settle_link (s : State) : (settle s).link = s.link := by unfold settle whenActive; split <;> rfl
@[simp] theorem settle_repair (s : State) : (settle s).repair = s.repair := by unfold settle whenActive; split <;> rfl

@[simp] theorem finish_control (s : State) : (finish s).control = s.control := by simp [finish]
@[simp] theorem finish_monitor (s : State) : (finish s).monitor = s.monitor := by simp [finish]
@[simp] theorem finish_roster (s : State) : (finish s).roster = s.roster := by simp [finish]
@[simp] theorem finish_service (s : State) : (finish s).service = s.service := by simp [finish]
@[simp] theorem finish_pins (s : State) : (finish s).pins = s.pins := by simp [finish]
@[simp] theorem finish_draws (s : State) : (finish s).draws = s.draws := by simp [finish]
@[simp] theorem finish_pending (s : State) : (finish s).pending = s.pending := by simp [finish]

/-! ### What only depends on Station Control -/

@[simp] theorem me_takeChange (f : Change → Change) (s : State) : (takeChange f s).me = s.me := by simp [State.me]
@[simp] theorem me_finish (s : State) : (finish s).me = s.me := by simp [State.me]
@[simp] theorem active_takeChange (f : Change → Change) (s : State) : (takeChange f s).active = s.active := by simp [State.active]
@[simp] theorem active_healthSync (s : State) : (healthSync s).active = s.active := by simp [State.active]
@[simp] theorem active_finish (s : State) : (finish s).active = s.active := by simp [State.active]
@[simp] theorem member_finish (s : State) (n : StationNo) : (finish s).member n = s.member n := by simp [State.member]
@[simp] theorem input_finish (s : State) (i : LineNo) : (finish s).input i = s.input i := by simp [State.input]

/-! ### What one table change is -/

/-- The table after a change is the one the change gives. -/
@[simp] theorem takeChange_table (f : Change → Change) (s : State) : (takeChange f s).table = (f ⟨s.table, []⟩).table := by
  unfold takeChange; dsimp only; split <;> rfl

@[simp] theorem take_condition (e : Entry) (r : PointReport) (st : EntryState) : (e.take r st).condition = e.condition := rfl
@[simp] theorem takeOptions_condition (e : Entry) (r : DumpRecord) : (e.takeOptions r).condition = e.condition := rfl
@[simp] theorem takeOptions_state (e : Entry) (r : DumpRecord) : (e.takeOptions r).state = e.state := rfl
@[simp] theorem takeOptions_revision (e : Entry) (r : DumpRecord) : (e.takeOptions r).revision = e.revision := rfl
@[simp] theorem takeOptions_stale (e : Entry) (r : DumpRecord) : (e.takeOptions r).stale = e.stale := rfl

@[simp] theorem rewriteEntry_overflow (e : Entry) (f : Entry → Entry) (ch : Change) :
    (rewriteEntry e f ch).table.overflow = ch.table.overflow := rfl
@[simp] theorem rewriteEntry_tableOverflow (e : Entry) (f : Entry → Entry) (ch : Change) :
    (rewriteEntry e f ch).table.tableOverflow = ch.table.tableOverflow := rfl
@[simp] theorem rewriteEntry_dropped (e : Entry) (f : Entry → Entry) (ch : Change) :
    (rewriteEntry e f ch).table.dropped = ch.table.dropped := rfl

/-- A rewriting that keeps the condition keeps the list of conditions, and with it the law of one entry each. -/
theorem rewriteEntry_conditions (e : Entry) (f : Entry → Entry) (ch : Change) (hf : ∀ x, (f x).condition = x.condition) :
    (rewriteEntry e f ch).table.entries.map Entry.condition = ch.table.entries.map Entry.condition := by
  simp only [rewriteEntry, List.map_map]
  refine List.map_congr_left fun x _ => ?_
  simp only [Function.comp_apply]
  split
  · exact hf x
  · rfl

/-- A record's correction creates, removes and drops no entry. -/
theorem alignRecord_keeps (src : StationNo) (ch : Change) (r : DumpRecord) :
    (alignRecord src ch r).table.entries.map Entry.condition = ch.table.entries.map Entry.condition ∧
      (alignRecord src ch r).table.dropped = ch.table.dropped ∧
      (alignRecord src ch r).table.overflow = ch.table.overflow ∧
      (alignRecord src ch r).table.tableOverflow = ch.table.tableOverflow := by
  unfold alignRecord
  split
  · split
    · exact ⟨rfl, rfl, rfl, rfl⟩
    · exact ⟨rewriteEntry_conditions _ _ ch (fun _ => rfl), rfl, rfl, rfl⟩
  · exact ⟨rfl, rfl, rfl, rfl⟩

/-- The correction of groups and options creates, removes and drops no entry (R46, R139). -/
theorem dumpAlign_keeps (src : StationNo) (records : List DumpRecord) (ch : Change) :
    (dumpAlign src records ch).table.entries.map Entry.condition = ch.table.entries.map Entry.condition ∧
      (dumpAlign src records ch).table.dropped = ch.table.dropped ∧
      (dumpAlign src records ch).table.overflow = ch.table.overflow ∧
      (dumpAlign src records ch).table.tableOverflow = ch.table.tableOverflow := by
  unfold dumpAlign
  induction records generalizing ch with
  | nil => exact ⟨rfl, rfl, rfl, rfl⟩
  | cons r rest ih =>
    obtain ⟨h1, h2, h3, h4⟩ := alignRecord_keeps src ch r
    obtain ⟨k1, k2, k3, k4⟩ := ih (alignRecord src ch r)
    exact ⟨k1.trans h1, k2.trans h2, k3.trans h3, k4.trans h4⟩

/-- The horn latch after a change (R158, R159). -/
theorem takeChange_horn (f : Change → Change) (s : State) :
    (takeChange f s).ann.horn = hornAfter s.ann.scope s.ann.horn (f ⟨s.table, []⟩) := by
  unfold takeChange; dsimp only; split <;> rfl

/-- A change sets and clears nothing else of the Annunciation Unit. -/
theorem takeChange_ann (f : Change → Change) (s : State) :
    (takeChange f s).ann = { s.ann with horn := hornAfter s.ann.scope s.ann.horn (f ⟨s.table, []⟩) } := by
  unfold takeChange; dsimp only; split <;> rfl

/-- With the monitor in step with the causes there is no health event. -/
theorem healthSync_of_eq (s : State) (h : s.anyCause = s.engine.healthLevel) : healthSync s = s := by
  simp [healthSync, h]

/-- A request for a mark touches the REPORT lane alone. -/
theorem requestReport_link (p : PointNo) (s : State) :
    (requestReport p s).link =
      { s.link with lanes := { s.link.lanes with report := requestMark (s.onAir .report) p s.link.lanes.report } } := rfl

/-- A change of a point in a state that marks (R11, R12). -/
theorem changePoint_of_marks (p : PointNo) (st : SeqState) (s : State) (h : s.marks = true) :
    changePoint p st s =
      requestReport p (s.setPoint p { s.point p with state := st, revision := (s.point p).revision + 1#8 }) := by
  have h1 : (s.setPoint p { s.point p with state := st, revision := (s.point p).revision + 1#8 }).marks = true := h
  simp only [changePoint, handOver, h1, if_true]

/-- A change of a point replaces its state and advances its revision, whatever the hand-over (R11). -/
theorem point_changePoint (p q : PointNo) (st : SeqState) (s : State) :
    (changePoint p st s).point q =
      if q = p then { s.point p with state := st, revision := (s.point p).revision + 1#8 } else s.point q := by
  have h : (changePoint p st s).engine =
      (s.setPoint p { s.point p with state := st, revision := (s.point p).revision + 1#8 }).engine := handOver_engine _ _
  rw [← point_setPoint]; simp only [State.point, h]

end Sys2Proof.Machine
end

