-- ==== Sys2Proof/Laws/Lamps.lean ====
section
/-! SUPPORT. What the read-back makes of a state (R162, R163), what a move of a sense line leaves as it is, and the drive of STX. -/

namespace Sys2Proof.Machine

/-! ### Settling -/

/-- Settling moves timers and no fault. -/
@[simp] theorem settleRecord_fault (compared driven sensed : Bool) (r : ReadBack) :
    (settleRecord compared driven sensed r).fault = r.fault := by
  unfold settleRecord
  split
  · split <;> simp_all
  · rfl

/-- The read-back settles record by record, each under its own output's levels. -/
theorem readbackOf_settle (s : State) (k : LineNo) (h : s.active = true) :
    (settle s).readbackOf k = settleRecord (s.compared k) (s.drivenActive k) (s.sensedActive k) (s.readbackOf k) := by
  simp [settle, whenActive, h, State.readbackOf, State.withAnn]

/-- Where the blocks do not run nothing settles. -/
theorem settle_not_active (s : State) (h : s.active = false) : settle s = s := by simp [settle, whenActive, h]

/-- Settling leaves every fault as it is. -/
@[simp] theorem readbackOf_settle_fault (s : State) (k : LineNo) :
    ((settle s).readbackOf k).fault = (s.readbackOf k).fault := by
  cases h : s.active
  · rw [settle_not_active s h]
  · simp [readbackOf_settle s k h]

/-- Settling changes the read-back records alone. -/
@[simp] theorem settle_ann (s : State) : ({ (settle s).ann with readback := s.ann.readback } : Annunciation) = s.ann := by
  unfold settle whenActive; split <;> rfl

/-- With the causes settled a command ends by settling the read-back alone. -/
theorem finish_settled (s : State) (h : s.anyCause = s.engine.healthLevel) : finish s = settle s := by
  simp [finish, healthSync_of_eq s h]

/-! ### A sense line that moves (R162, R163) -/

@[simp] theorem setSensePin_readbackOf (k j : LineNo) (high : Bool) (s : State) :
    (setSensePin k high s).readbackOf j = s.readbackOf j := rfl

theorem setSensePin_sense (k j : LineNo) (high : Bool) (s : State) :
    (setSensePin k high s).pins.sense[j] = if j = k then high else s.pins.sense[j] := vector_get_set _ _ _ _

theorem readbackOf_senseMoved (k j : LineNo) (s : State) :
    (senseMoved k s).readbackOf j =
      if j = k then { s.readbackOf k with agreement := senseAgreement (s.readbackOf k).agreement } else s.readbackOf j :=
  readbackOf_setReadback _ _ _ _

/-- The pins after a sense line takes a level. -/
@[simp] theorem senseChange_pins (k : LineNo) (high : Bool) (s : State) :
    (senseChange k high s).pins = { s.pins with sense := s.pins.sense.set k high } := by unfold senseChange; split <;> rfl

@[simp] theorem senseChange_control (k : LineNo) (high : Bool) (s : State) : (senseChange k high s).control = s.control := by unfold senseChange; split <;> rfl
@[simp] theorem senseChange_engine (k : LineNo) (high : Bool) (s : State) : (senseChange k high s).engine = s.engine := by unfold senseChange; split <;> rfl
@[simp] theorem senseChange_monitor (k : LineNo) (high : Bool) (s : State) : (senseChange k high s).monitor = s.monitor := by unfold senseChange; split <;> rfl
@[simp] theorem senseChange_table (k : LineNo) (high : Bool) (s : State) : (senseChange k high s).table = s.table := by unfold senseChange; split <;> rfl
@[simp] theorem senseChange_link (k : LineNo) (high : Bool) (s : State) : (senseChange k high s).link = s.link := by unfold senseChange; split <;> rfl
@[simp] theorem senseChange_roster (k : LineNo) (high : Bool) (s : State) : (senseChange k high s).roster = s.roster := by unfold senseChange; split <;> rfl
@[simp] theorem senseChange_repair (k : LineNo) (high : Bool) (s : State) : (senseChange k high s).repair = s.repair := by unfold senseChange; split <;> rfl
@[simp] theorem senseChange_service (k : LineNo) (high : Bool) (s : State) : (senseChange k high s).service = s.service := by unfold senseChange; split <;> rfl
@[simp] theorem senseChange_draws (k : LineNo) (high : Bool) (s : State) : (senseChange k high s).draws = s.draws := by unfold senseChange; split <;> rfl
@[simp] theorem senseChange_pending (k : LineNo) (high : Bool) (s : State) : (senseChange k high s).pending = s.pending := by unfold senseChange; split <;> rfl

/-! ### STX (R182, R186) -/

theorem stxPin_in_reset (s : State) (h : s.control.inReset = true) : s.stxPin = .released := by simp [State.stxPin, h]

theorem stxPin_idle (s : State) (h : s.portLive = true) (hr : s.service.response = none) : s.stxPin = .idle := by
  simp_all [State.portLive, State.stxPin]

theorem stxPin_sending (s : State) (bytes : List Byte) (h : s.portLive = true) (hr : s.service.response = some bytes) :
    s.stxPin = .sending bytes := by
  simp_all [State.portLive, State.stxPin]

end Sys2Proof.Machine
end

