-- ==== Sys2Proof/Laws/Port.lean ====
section
/-! SUPPORT. What the receiver of the Service Port does with the bytes of a whole request (R183, R184). -/

namespace Sys2Proof.Machine

/-- What a part that takes no service byte does with one. -/
theorem serviceByte_not_live (s : State) (b : Byte) (h : s.portLive = false) : serviceByte s b = s := by
  simp [serviceByte, h]

/-- With the port dead a whole request is discarded uncounted (R182). -/
theorem receiveAll_not_live (kind : Byte) (body : RequestBody) (s : State) (h : s.portLive = false) :
    receiveAll kind body s = s := by
  unfold receiveAll
  induction requestBytes kind body with
  | nil => rfl
  | cons b bs ih => rw [List.foldl_cons, serviceByte_not_live s b h, ih]

/-- A byte that arrives while a response is in progress is discarded and counted (R186). -/
theorem serviceByte_busy (s : State) (b : Byte) (h : s.portLive = true) (hr : s.service.response.isSome = true) :
    serviceByte s b = countServiceError s := by
  obtain ⟨r, hr⟩ := Option.isSome_iff_exists.mp hr
  simp [serviceByte, h, hr]

/-- A receiver that holds a buffer and awaits bytes. -/
def holding (s : State) (r : RxBuffer) : State :=
  s.withService { s.service with rx := some r, gap := Timer.start serviceGapMs }

/-- The receiver emptied by a whole request. -/
def emptied (s : State) : State := s.withService { s.service with rx := none, gap := .stopped }

/-- A receiver with a buffer adds the byte to it. -/
theorem serviceByte_holding (s : State) (r : RxBuffer) (b : Byte) (h : s.portLive = true) (hr : s.service.response = none) :
    serviceByte (holding s r) b = holdBuffer (r.add b) (holding s r) := by
  have h1 : (holding s r).portLive = true := h
  have h2 : (holding s r).service.response = none := hr
  have h3 : (holding s r).service.rx = some r := rfl
  unfold serviceByte
  rw [if_pos h1]
  split <;> simp_all

/-- A byte that does not complete the request joins it (R183). -/
theorem serviceByte_joins (s : State) (r : RxBuffer) (b : Byte) (h : s.portLive = true) (hr : s.service.response = none)
    (hc : (r.add b).complete = false) : serviceByte (holding s r) b = holding s (r.add b) := by
  rw [serviceByte_holding s r b h hr]
  unfold holdBuffer
  rw [if_neg (by simp [hc])]
  rfl

/-- The byte that completes the request has it taken (R184). -/
theorem serviceByte_completes (s : State) (r : RxBuffer) (b : Byte) (h : s.portLive = true) (hr : s.service.response = none)
    (hc : (r.add b).complete = true) :
    serviceByte (holding s r) b = takeRequest (r.add b).request (emptied s) := by
  rw [serviceByte_holding s r b h hr]
  unfold holdBuffer
  rw [if_pos hc]
  rfl

/-- The buffer after the kind byte, the length bytes and a part of the payload. -/
def bufferOf (kind hi lo : Byte) (got : List Byte) : RxBuffer :=
  { kind := kind, lengthHigh := hi, lengthLow := lo, kept := got.take 96,
    sum := byteSum (kind :: hi :: lo :: got), count := 3 + got.length }

theorem byteSum_append (l : List Byte) (b : Byte) : byteSum (l ++ [b]) = byteSum l + b := by
  simp [byteSum]

theorem bufferOf_add (kind hi lo : Byte) (got : List Byte) (b : Byte) (h : got.length < (word16 hi lo).toNat) :
    (bufferOf kind hi lo got).add b = bufferOf kind hi lo (got ++ [b]) := by
  have h0 : (bufferOf kind hi lo got).length = (word16 hi lo).toNat := rfl
  have hk : (bufferOf kind hi lo got).kept = got.take 96 := rfl
  have hc : (bufferOf kind hi lo got).count = 3 + got.length := rfl
  have hs : (bufferOf kind hi lo got).sum = byteSum (kind :: hi :: lo :: got) := rfl
  unfold RxBuffer.add
  rw [h0, hk, hc, hs, if_neg (by omega), if_neg (by omega)]
  unfold bufferOf
  congr 1
  · split
    · next hl =>
      simp only [List.length_take] at hl
      rw [List.take_of_length_le (by omega), List.take_of_length_le (by simp; omega)]
    · next hl =>
      simp only [List.length_take] at hl
      rw [List.take_append_of_le_length (by omega)]
  · rw [← byteSum_append]; rfl
  · simp; omega

theorem bufferOf_waits (kind hi lo : Byte) (got : List Byte) (h : got.length ≤ (word16 hi lo).toNat) :
    (bufferOf kind hi lo got).complete = false := by
  have h0 : (bufferOf kind hi lo got).length = (word16 hi lo).toNat := rfl
  have hc : (bufferOf kind hi lo got).count = 3 + got.length := rfl
  simp only [RxBuffer.complete, h0, hc, Bool.and_eq_false_iff, beq_eq_false_iff_ne]
  right; omega

/-- The payload bytes join one after another. -/
theorem serviceBytes_payload (s : State) (kind hi lo : Byte) (h : s.portLive = true) (hr : s.service.response = none)
    (rest got : List Byte) (hl : got.length + rest.length ≤ (word16 hi lo).toNat) :
    rest.foldl serviceByte (holding s (bufferOf kind hi lo got)) = holding s (bufferOf kind hi lo (got ++ rest)) := by
  induction rest generalizing got with
  | nil => simp
  | cons b bs ih =>
    simp only [List.length_cons] at hl
    rw [List.foldl_cons, serviceByte_joins s _ b h hr, bufferOf_add _ _ _ _ _ (by omega), ih _ (by simp; omega)]
    · simp
    · rw [bufferOf_add _ _ _ _ _ (by omega)]; exact bufferOf_waits _ _ _ _ (by simp; omega)

theorem word16_lengthBytes (n : Nat) (h : n ≤ 65535) :
    (word16 (highByte (BitVec.ofNat 16 n)) (lowByte (BitVec.ofNat 16 n))).toNat = n := by
  simp only [word16, highByte, lowByte, BitVec.toNat_append, BitVec.toNat_setWidth, BitVec.toNat_ushiftRight,
    BitVec.toNat_ofNat, Nat.shiftRight_eq_div_pow]
  rw [← Nat.shiftLeft_add_eq_or_of_lt (by omega), Nat.shiftLeft_eq]
  omega

/-- The three header bytes of a request make the buffer of an empty payload. -/
theorem serviceBytes_header (s : State) (kind hi lo : Byte) (h : s.portLive = true) (hr : s.service.response = none)
    (hx : s.service.rx = none) :
    [kind, hi, lo].foldl serviceByte s = holding s (bufferOf kind hi lo []) := by
  have h1 : serviceByte s kind = holding s (firstByte kind) := by
    have h0 : serviceByte s kind = holdBuffer (firstByte kind) s := by
      unfold serviceByte
      rw [if_pos h]
      split <;> simp_all
    rw [h0]
    unfold holdBuffer
    rw [if_neg (by simp [RxBuffer.complete, firstByte])]
    rfl
  have h2 : serviceByte (holding s (firstByte kind)) hi = holding s ((firstByte kind).add hi) :=
    serviceByte_joins s _ hi h hr (by simp [RxBuffer.complete, RxBuffer.add, firstByte])
  have h3 : serviceByte (holding s ((firstByte kind).add hi)) lo = holding s (((firstByte kind).add hi).add lo) :=
    serviceByte_joins s _ lo h hr (by simp [RxBuffer.complete, RxBuffer.add, firstByte])
  simp only [List.foldl_cons, List.foldl_nil, h1, h2, h3]
  congr 1
  simp [RxBuffer.add, firstByte, bufferOf, byteSum]

/-- The request that the bytes of `requestBytes` make. -/
def wholeRequest (kind : Byte) (body : RequestBody) : Request :=
  { kind := kind, length := body.payload.length, kept := body.payload.take 96, sum := byteSum (requestBytes kind body) }

/-- A whole request that reaches an idle port is taken and judged, and the receiver is idle again (R183, R184). -/
theorem receiveAll_idle (kind : Byte) (body : RequestBody) (s : State) (h : s.portLive = true)
    (hr : s.service.response = none) (hx : s.service.rx = none) (hw : body.wellFormed = true) :
    receiveAll kind body s = takeRequest (wholeRequest kind body) (emptied s) := by
  have hlen : body.payload.length ≤ 65535 := by simpa [RequestBody.wellFormed] using hw
  set hi := highByte (BitVec.ofNat 16 body.payload.length) with hhi
  set lo := lowByte (BitVec.ofNat 16 body.payload.length) with hlo
  have hn : (word16 hi lo).toNat = body.payload.length := word16_lengthBytes _ hlen
  have hb : requestBytes kind body = [kind, hi, lo] ++ body.payload ++ [body.check] := by
    simp [requestBytes, lengthBytes, hhi, hlo]
  have hz : (bufferOf kind hi lo body.payload).length = body.payload.length := hn
  have hcount : (bufferOf kind hi lo body.payload).count = 3 + body.payload.length := rfl
  have hadd : ((bufferOf kind hi lo body.payload).add body.check).request = wholeRequest kind body := by
    unfold RxBuffer.add
    rw [hz, hcount, if_neg (by omega), if_neg (by omega), if_neg (by omega)]
    unfold RxBuffer.request wholeRequest
    rw [hb]
    congr 1
    rw [byteSum_append]; rfl
  have hc : ((bufferOf kind hi lo body.payload).add body.check).complete = true := by
    have hl : ((bufferOf kind hi lo body.payload).add body.check).length = body.payload.length := by
      have := congrArg Request.length hadd; exact this
    simp only [RxBuffer.complete, hl]
    simp [RxBuffer.add, bufferOf]
  unfold receiveAll
  rw [hb, List.foldl_append, List.foldl_append, serviceBytes_header s kind hi lo h hr hx,
    serviceBytes_payload s kind hi lo h hr body.payload [] (by simp [hn]), List.nil_append, List.foldl_cons, List.foldl_nil,
    serviceByte_completes s _ body.check h hr hc, hadd]

end Sys2Proof.Machine
end

