-- ==== Sys2Proof/Laws/Roles.lean ====
section
/-! SUPPORT. What the shared operations of the Roster, the Repair Unit, Station Control and the Link Controller leave as it is. -/

namespace Sys2Proof.Machine

@[simp] theorem withdrawOwner_service (n : StationNo) (s : State) : (withdrawOwner n s).service = s.service := rfl
@[simp] theorem withdrawOwner_pins (n : StationNo) (s : State) : (withdrawOwner n s).pins = s.pins := rfl
@[simp] theorem withdrawOwner_draws (n : StationNo) (s : State) : (withdrawOwner n s).draws = s.draws := rfl
@[simp] theorem withdrawOwner_pending (n : StationNo) (s : State) : (withdrawOwner n s).pending = s.pending := rfl
@[simp] theorem withdrawOwner_control (n : StationNo) (s : State) : (withdrawOwner n s).control = s.control := rfl
@[simp] theorem withdrawOwner_engine (n : StationNo) (s : State) : (withdrawOwner n s).engine = s.engine := rfl
@[simp] theorem withdrawOwner_monitor (n : StationNo) (s : State) : (withdrawOwner n s).monitor = s.monitor := rfl
@[simp] theorem withdrawOwner_table (n : StationNo) (s : State) : (withdrawOwner n s).table = s.table := rfl
@[simp] theorem withdrawOwner_ann (n : StationNo) (s : State) : (withdrawOwner n s).ann = s.ann := rfl
@[simp] theorem withdrawOwner_roster (n : StationNo) (s : State) : (withdrawOwner n s).roster = s.roster := rfl
@[simp] theorem withdrawOwner_repair (n : StationNo) (s : State) : (withdrawOwner n s).repair = s.repair := rfl

@[simp] theorem requestDump_service (s : State) : (requestDump s).service = s.service := by unfold requestDump; split <;> rfl
@[simp] theorem requestDump_pins (s : State) : (requestDump s).pins = s.pins := by unfold requestDump; split <;> rfl
@[simp] theorem requestDump_draws (s : State) : (requestDump s).draws = s.draws := by unfold requestDump; split <;> rfl
@[simp] theorem requestDump_pending (s : State) : (requestDump s).pending = s.pending := by unfold requestDump; split <;> rfl
@[simp] theorem requestDump_control (s : State) : (requestDump s).control = s.control := by unfold requestDump; split <;> rfl
@[simp] theorem requestDump_engine (s : State) : (requestDump s).engine = s.engine := by unfold requestDump; split <;> rfl
@[simp] theorem requestDump_monitor (s : State) : (requestDump s).monitor = s.monitor := by unfold requestDump; split <;> rfl
@[simp] theorem requestDump_table (s : State) : (requestDump s).table = s.table := by unfold requestDump; split <;> rfl
@[simp] theorem requestDump_ann (s : State) : (requestDump s).ann = s.ann := by unfold requestDump; split <;> rfl
@[simp] theorem requestDump_roster (s : State) : (requestDump s).roster = s.roster := by unfold requestDump; split <;> rfl
@[simp] theorem requestDump_repair (s : State) : (requestDump s).repair = s.repair := by unfold requestDump; split <;> rfl

@[simp] theorem requestOwner_service (n : StationNo) (s : State) : (requestOwner n s).service = s.service := by unfold requestOwner; split <;> rfl
@[simp] theorem requestOwner_pins (n : StationNo) (s : State) : (requestOwner n s).pins = s.pins := by unfold requestOwner; split <;> rfl
@[simp] theorem requestOwner_draws (n : StationNo) (s : State) : (requestOwner n s).draws = s.draws := by unfold requestOwner; split <;> rfl
@[simp] theorem requestOwner_pending (n : StationNo) (s : State) : (requestOwner n s).pending = s.pending := by unfold requestOwner; split <;> rfl
@[simp] theorem requestOwner_control (n : StationNo) (s : State) : (requestOwner n s).control = s.control := by unfold requestOwner; split <;> rfl
@[simp] theorem requestOwner_engine (n : StationNo) (s : State) : (requestOwner n s).engine = s.engine := by unfold requestOwner; split <;> rfl
@[simp] theorem requestOwner_monitor (n : StationNo) (s : State) : (requestOwner n s).monitor = s.monitor := by unfold requestOwner; split <;> rfl
@[simp] theorem requestOwner_table (n : StationNo) (s : State) : (requestOwner n s).table = s.table := by unfold requestOwner; split <;> rfl
@[simp] theorem requestOwner_ann (n : StationNo) (s : State) : (requestOwner n s).ann = s.ann := by unfold requestOwner; split <;> rfl
@[simp] theorem requestOwner_roster (n : StationNo) (s : State) : (requestOwner n s).roster = s.roster := by unfold requestOwner; split <;> rfl
@[simp] theorem requestOwner_repair (n : StationNo) (s : State) : (requestOwner n s).repair = s.repair := by unfold requestOwner; split <;> rfl

@[simp] theorem endRepair_service (n : StationNo) (s : State) : (endRepair n s).service = s.service := by simp [endRepair]
@[simp] theorem endRepair_pins (n : StationNo) (s : State) : (endRepair n s).pins = s.pins := by simp [endRepair]
@[simp] theorem endRepair_draws (n : StationNo) (s : State) : (endRepair n s).draws = s.draws := by simp [endRepair]
@[simp] theorem endRepair_pending (n : StationNo) (s : State) : (endRepair n s).pending = s.pending := by simp [endRepair]
@[simp] theorem endRepair_control (n : StationNo) (s : State) : (endRepair n s).control = s.control := by simp [endRepair]
@[simp] theorem endRepair_engine (n : StationNo) (s : State) : (endRepair n s).engine = s.engine := by simp [endRepair]
@[simp] theorem endRepair_monitor (n : StationNo) (s : State) : (endRepair n s).monitor = s.monitor := by simp [endRepair]
@[simp] theorem endRepair_table (n : StationNo) (s : State) : (endRepair n s).table = s.table := by simp [endRepair]
@[simp] theorem endRepair_ann (n : StationNo) (s : State) : (endRepair n s).ann = s.ann := by simp [endRepair]
@[simp] theorem endRepair_roster (n : StationNo) (s : State) : (endRepair n s).roster = s.roster := by simp [endRepair]

@[simp] theorem compareDigest_service (n : StationNo) (b : PresenceBody) (s : State) : (compareDigest n b s).service = s.service := by unfold compareDigest; (repeat' split) <;> simp
@[simp] theorem compareDigest_pins (n : StationNo) (b : PresenceBody) (s : State) : (compareDigest n b s).pins = s.pins := by unfold compareDigest; (repeat' split) <;> simp
@[simp] theorem compareDigest_draws (n : StationNo) (b : PresenceBody) (s : State) : (compareDigest n b s).draws = s.draws := by unfold compareDigest; (repeat' split) <;> simp
@[simp] theorem compareDigest_pending (n : StationNo) (b : PresenceBody) (s : State) : (compareDigest n b s).pending = s.pending := by unfold compareDigest; (repeat' split) <;> simp
@[simp] theorem compareDigest_control (n : StationNo) (b : PresenceBody) (s : State) : (compareDigest n b s).control = s.control := by unfold compareDigest; (repeat' split) <;> simp
@[simp] theorem compareDigest_engine (n : StationNo) (b : PresenceBody) (s : State) : (compareDigest n b s).engine = s.engine := by unfold compareDigest; (repeat' split) <;> simp
@[simp] theorem compareDigest_monitor (n : StationNo) (b : PresenceBody) (s : State) : (compareDigest n b s).monitor = s.monitor := by unfold compareDigest; (repeat' split) <;> simp
@[simp] theorem compareDigest_table (n : StationNo) (b : PresenceBody) (s : State) : (compareDigest n b s).table = s.table := by unfold compareDigest; (repeat' split) <;> simp
@[simp] theorem compareDigest_ann (n : StationNo) (b : PresenceBody) (s : State) : (compareDigest n b s).ann = s.ann := by unfold compareDigest; (repeat' split) <;> simp
@[simp] theorem compareDigest_roster (n : StationNo) (b : PresenceBody) (s : State) : (compareDigest n b s).roster = s.roster := by unfold compareDigest; (repeat' split) <;> simp

@[simp] theorem repairExpiry_service (n : StationNo) (s : State) : (repairExpiry n s).service = s.service := by unfold repairExpiry; dsimp only; (repeat' split) <;> simp
@[simp] theorem repairExpiry_pins (n : StationNo) (s : State) : (repairExpiry n s).pins = s.pins := by unfold repairExpiry; dsimp only; (repeat' split) <;> simp
@[simp] theorem repairExpiry_draws (n : StationNo) (s : State) : (repairExpiry n s).draws = s.draws := by unfold repairExpiry; dsimp only; (repeat' split) <;> simp
@[simp] theorem repairExpiry_pending (n : StationNo) (s : State) : (repairExpiry n s).pending = s.pending := by unfold repairExpiry; dsimp only; (repeat' split) <;> simp
@[simp] theorem repairExpiry_control (n : StationNo) (s : State) : (repairExpiry n s).control = s.control := by unfold repairExpiry; dsimp only; (repeat' split) <;> simp
@[simp] theorem repairExpiry_engine (n : StationNo) (s : State) : (repairExpiry n s).engine = s.engine := by unfold repairExpiry; dsimp only; (repeat' split) <;> simp
@[simp] theorem repairExpiry_monitor (n : StationNo) (s : State) : (repairExpiry n s).monitor = s.monitor := by unfold repairExpiry; dsimp only; (repeat' split) <;> simp
@[simp] theorem repairExpiry_table (n : StationNo) (s : State) : (repairExpiry n s).table = s.table := by unfold repairExpiry; dsimp only; (repeat' split) <;> simp
@[simp] theorem repairExpiry_ann (n : StationNo) (s : State) : (repairExpiry n s).ann = s.ann := by unfold repairExpiry; dsimp only; (repeat' split) <;> simp
@[simp] theorem repairExpiry_roster (n : StationNo) (s : State) : (repairExpiry n s).roster = s.roster := by unfold repairExpiry; dsimp only; (repeat' split) <;> simp

@[simp] theorem awaitedRemove_service (n : StationNo) (s : State) : (awaitedRemove n s).service = s.service := by unfold awaitedRemove; dsimp only; (repeat' split) <;> simp_all [enterRunning, leaveState]
@[simp] theorem awaitedRemove_pins (n : StationNo) (s : State) : (awaitedRemove n s).pins = s.pins := by unfold awaitedRemove; dsimp only; (repeat' split) <;> simp_all [enterRunning, leaveState]
@[simp] theorem awaitedRemove_draws (n : StationNo) (s : State) : (awaitedRemove n s).draws = s.draws := by unfold awaitedRemove; dsimp only; (repeat' split) <;> simp_all [enterRunning, leaveState]
@[simp] theorem awaitedRemove_pending (n : StationNo) (s : State) : (awaitedRemove n s).pending = s.pending := by unfold awaitedRemove; dsimp only; (repeat' split) <;> simp_all [enterRunning, leaveState]
@[simp] theorem awaitedRemove_engine (n : StationNo) (s : State) : (awaitedRemove n s).engine = s.engine := by unfold awaitedRemove; dsimp only; (repeat' split) <;> simp_all [enterRunning, leaveState]
@[simp] theorem awaitedRemove_monitor (n : StationNo) (s : State) : (awaitedRemove n s).monitor = s.monitor := by unfold awaitedRemove; dsimp only; (repeat' split) <;> simp_all [enterRunning, leaveState]
@[simp] theorem awaitedRemove_table (n : StationNo) (s : State) : (awaitedRemove n s).table = s.table := by unfold awaitedRemove; dsimp only; (repeat' split) <;> simp_all [enterRunning, leaveState]
@[simp] theorem awaitedRemove_ann (n : StationNo) (s : State) : (awaitedRemove n s).ann = s.ann := by unfold awaitedRemove; dsimp only; (repeat' split) <;> simp_all [enterRunning, leaveState]
@[simp] theorem awaitedRemove_link (n : StationNo) (s : State) : (awaitedRemove n s).link = s.link := by unfold awaitedRemove; dsimp only; (repeat' split) <;> simp_all [enterRunning, leaveState]
@[simp] theorem awaitedRemove_repair (n : StationNo) (s : State) : (awaitedRemove n s).repair = s.repair := by unfold awaitedRemove; dsimp only; (repeat' split) <;> simp_all [enterRunning, leaveState]

@[simp] theorem revive_service (n : StationNo) (s : State) : (revive n s).service = s.service := by unfold revive; (repeat' split) <;> simp
@[simp] theorem revive_pins (n : StationNo) (s : State) : (revive n s).pins = s.pins := by unfold revive; (repeat' split) <;> simp
@[simp] theorem revive_draws (n : StationNo) (s : State) : (revive n s).draws = s.draws := by unfold revive; (repeat' split) <;> simp
@[simp] theorem revive_pending (n : StationNo) (s : State) : (revive n s).pending = s.pending := by unfold revive; (repeat' split) <;> simp
@[simp] theorem revive_control (n : StationNo) (s : State) : (revive n s).control = s.control := by unfold revive; (repeat' split) <;> simp
@[simp] theorem revive_engine (n : StationNo) (s : State) : (revive n s).engine = s.engine := by unfold revive; (repeat' split) <;> simp
@[simp] theorem revive_monitor (n : StationNo) (s : State) : (revive n s).monitor = s.monitor := by unfold revive; (repeat' split) <;> simp
@[simp] theorem revive_link (n : StationNo) (s : State) : (revive n s).link = s.link := by unfold revive; (repeat' split) <;> simp

@[simp] theorem recordAndTime_service (n : StationNo) (f : RosterEntry → RosterEntry) (s : State) : (recordAndTime n f s).service = s.service := rfl
@[simp] theorem recordAndTime_pins (n : StationNo) (f : RosterEntry → RosterEntry) (s : State) : (recordAndTime n f s).pins = s.pins := rfl
@[simp] theorem recordAndTime_draws (n : StationNo) (f : RosterEntry → RosterEntry) (s : State) : (recordAndTime n f s).draws = s.draws := rfl
@[simp] theorem recordAndTime_pending (n : StationNo) (f : RosterEntry → RosterEntry) (s : State) : (recordAndTime n f s).pending = s.pending := rfl
@[simp] theorem recordAndTime_control (n : StationNo) (f : RosterEntry → RosterEntry) (s : State) : (recordAndTime n f s).control = s.control := rfl
@[simp] theorem recordAndTime_engine (n : StationNo) (f : RosterEntry → RosterEntry) (s : State) : (recordAndTime n f s).engine = s.engine := rfl
@[simp] theorem recordAndTime_monitor (n : StationNo) (f : RosterEntry → RosterEntry) (s : State) : (recordAndTime n f s).monitor = s.monitor := rfl
@[simp] theorem recordAndTime_table (n : StationNo) (f : RosterEntry → RosterEntry) (s : State) : (recordAndTime n f s).table = s.table := rfl
@[simp] theorem recordAndTime_ann (n : StationNo) (f : RosterEntry → RosterEntry) (s : State) : (recordAndTime n f s).ann = s.ann := rfl
@[simp] theorem recordAndTime_link (n : StationNo) (f : RosterEntry → RosterEntry) (s : State) : (recordAndTime n f s).link = s.link := rfl
@[simp] theorem recordAndTime_repair (n : StationNo) (f : RosterEntry → RosterEntry) (s : State) : (recordAndTime n f s).repair = s.repair := rfl

@[simp] theorem rosterTake_service (n : StationNo) (f : RosterEntry → RosterEntry) (s : State) : (rosterTake n f s).service = s.service := by simp [rosterTake]
@[simp] theorem rosterTake_pins (n : StationNo) (f : RosterEntry → RosterEntry) (s : State) : (rosterTake n f s).pins = s.pins := by simp [rosterTake]
@[simp] theorem rosterTake_draws (n : StationNo) (f : RosterEntry → RosterEntry) (s : State) : (rosterTake n f s).draws = s.draws := by simp [rosterTake]
@[simp] theorem rosterTake_pending (n : StationNo) (f : RosterEntry → RosterEntry) (s : State) : (rosterTake n f s).pending = s.pending := by simp [rosterTake]
@[simp] theorem rosterTake_control (n : StationNo) (f : RosterEntry → RosterEntry) (s : State) : (rosterTake n f s).control = s.control := by simp [rosterTake]
@[simp] theorem rosterTake_engine (n : StationNo) (f : RosterEntry → RosterEntry) (s : State) : (rosterTake n f s).engine = s.engine := by simp [rosterTake]
@[simp] theorem rosterTake_monitor (n : StationNo) (f : RosterEntry → RosterEntry) (s : State) : (rosterTake n f s).monitor = s.monitor := by simp [rosterTake]
@[simp] theorem rosterTake_link (n : StationNo) (f : RosterEntry → RosterEntry) (s : State) : (rosterTake n f s).link = s.link := by simp [rosterTake]

@[simp] theorem restartCheck_service (n : StationNo) (c : Byte) (s : State) : (restartCheck n c s).service = s.service := by unfold restartCheck; (repeat' split) <;> simp
@[simp] theorem restartCheck_pins (n : StationNo) (c : Byte) (s : State) : (restartCheck n c s).pins = s.pins := by unfold restartCheck; (repeat' split) <;> simp
@[simp] theorem restartCheck_draws (n : StationNo) (c : Byte) (s : State) : (restartCheck n c s).draws = s.draws := by unfold restartCheck; (repeat' split) <;> simp
@[simp] theorem restartCheck_pending (n : StationNo) (c : Byte) (s : State) : (restartCheck n c s).pending = s.pending := by unfold restartCheck; (repeat' split) <;> simp
@[simp] theorem restartCheck_control (n : StationNo) (c : Byte) (s : State) : (restartCheck n c s).control = s.control := by unfold restartCheck; (repeat' split) <;> simp
@[simp] theorem restartCheck_engine (n : StationNo) (c : Byte) (s : State) : (restartCheck n c s).engine = s.engine := by unfold restartCheck; (repeat' split) <;> simp
@[simp] theorem restartCheck_monitor (n : StationNo) (c : Byte) (s : State) : (restartCheck n c s).monitor = s.monitor := by unfold restartCheck; (repeat' split) <;> simp
@[simp] theorem restartCheck_link (n : StationNo) (c : Byte) (s : State) : (restartCheck n c s).link = s.link := by unfold restartCheck; (repeat' split) <;> simp

@[simp] theorem adoptCadence_service (n : StationNo) (p : Phase) (s : State) : (adoptCadence n p s).service = s.service := by unfold adoptCadence; (repeat' split) <;> simp
@[simp] theorem adoptCadence_pins (n : StationNo) (p : Phase) (s : State) : (adoptCadence n p s).pins = s.pins := by unfold adoptCadence; (repeat' split) <;> simp
@[simp] theorem adoptCadence_draws (n : StationNo) (p : Phase) (s : State) : (adoptCadence n p s).draws = s.draws := by unfold adoptCadence; (repeat' split) <;> simp
@[simp] theorem adoptCadence_pending (n : StationNo) (p : Phase) (s : State) : (adoptCadence n p s).pending = s.pending := by unfold adoptCadence; (repeat' split) <;> simp
@[simp] theorem adoptCadence_control (n : StationNo) (p : Phase) (s : State) : (adoptCadence n p s).control = s.control := by unfold adoptCadence; (repeat' split) <;> simp
@[simp] theorem adoptCadence_engine (n : StationNo) (p : Phase) (s : State) : (adoptCadence n p s).engine = s.engine := by unfold adoptCadence; (repeat' split) <;> simp
@[simp] theorem adoptCadence_monitor (n : StationNo) (p : Phase) (s : State) : (adoptCadence n p s).monitor = s.monitor := by unfold adoptCadence; (repeat' split) <;> simp
@[simp] theorem adoptCadence_table (n : StationNo) (p : Phase) (s : State) : (adoptCadence n p s).table = s.table := by unfold adoptCadence; (repeat' split) <;> simp
@[simp] theorem adoptCadence_link (n : StationNo) (p : Phase) (s : State) : (adoptCadence n p s).link = s.link := by unfold adoptCadence; (repeat' split) <;> simp
@[simp] theorem adoptCadence_roster (n : StationNo) (p : Phase) (s : State) : (adoptCadence n p s).roster = s.roster := by unfold adoptCadence; (repeat' split) <;> simp
@[simp] theorem adoptCadence_repair (n : StationNo) (p : Phase) (s : State) : (adoptCadence n p s).repair = s.repair := by unfold adoptCadence; (repeat' split) <;> simp

@[simp] theorem discardLanes_service (s : State) : (discardLanes s).service = s.service := rfl
@[simp] theorem discardLanes_pins (s : State) : (discardLanes s).pins = s.pins := rfl
@[simp] theorem discardLanes_draws (s : State) : (discardLanes s).draws = s.draws := rfl
@[simp] theorem discardLanes_pending (s : State) : (discardLanes s).pending = s.pending := rfl
@[simp] theorem discardLanes_control (s : State) : (discardLanes s).control = s.control := rfl
@[simp] theorem discardLanes_engine (s : State) : (discardLanes s).engine = s.engine := rfl
@[simp] theorem discardLanes_monitor (s : State) : (discardLanes s).monitor = s.monitor := rfl
@[simp] theorem discardLanes_table (s : State) : (discardLanes s).table = s.table := rfl
@[simp] theorem discardLanes_roster (s : State) : (discardLanes s).roster = s.roster := rfl
@[simp] theorem discardLanes_repair (s : State) : (discardLanes s).repair = s.repair := rfl

@[simp] theorem localFold_service (l : List ReportMark) (s : State) : (l.foldl (fun t m => localDeliver m.point t) s).service = s.service := by induction l generalizing s <;> simp_all
@[simp] theorem localFold_pins (l : List ReportMark) (s : State) : (l.foldl (fun t m => localDeliver m.point t) s).pins = s.pins := by induction l generalizing s <;> simp_all
@[simp] theorem localFold_draws (l : List ReportMark) (s : State) : (l.foldl (fun t m => localDeliver m.point t) s).draws = s.draws := by induction l generalizing s <;> simp_all
@[simp] theorem localFold_pending (l : List ReportMark) (s : State) : (l.foldl (fun t m => localDeliver m.point t) s).pending = s.pending := by induction l generalizing s <;> simp_all
@[simp] theorem localFold_control (l : List ReportMark) (s : State) : (l.foldl (fun t m => localDeliver m.point t) s).control = s.control := by induction l generalizing s <;> simp_all
@[simp] theorem localFold_engine (l : List ReportMark) (s : State) : (l.foldl (fun t m => localDeliver m.point t) s).engine = s.engine := by induction l generalizing s <;> simp_all
@[simp] theorem localFold_monitor (l : List ReportMark) (s : State) : (l.foldl (fun t m => localDeliver m.point t) s).monitor = s.monitor := by induction l generalizing s <;> simp_all
@[simp] theorem localFold_roster (l : List ReportMark) (s : State) : (l.foldl (fun t m => localDeliver m.point t) s).roster = s.roster := by induction l generalizing s <;> simp_all
@[simp] theorem localFold_link (l : List ReportMark) (s : State) : (l.foldl (fun t m => localDeliver m.point t) s).link = s.link := by induction l generalizing s <;> simp_all

@[simp] theorem emptyLanes_service (s : State) : (emptyLanes s).service = s.service := by simp [emptyLanes]
@[simp] theorem emptyLanes_pins (s : State) : (emptyLanes s).pins = s.pins := by simp [emptyLanes]
@[simp] theorem emptyLanes_draws (s : State) : (emptyLanes s).draws = s.draws := by simp [emptyLanes]
@[simp] theorem emptyLanes_pending (s : State) : (emptyLanes s).pending = s.pending := by simp [emptyLanes]
@[simp] theorem emptyLanes_control (s : State) : (emptyLanes s).control = s.control := by simp [emptyLanes]
@[simp] theorem emptyLanes_engine (s : State) : (emptyLanes s).engine = s.engine := by simp [emptyLanes]
@[simp] theorem emptyLanes_monitor (s : State) : (emptyLanes s).monitor = s.monitor := by simp [emptyLanes]
@[simp] theorem emptyLanes_roster (s : State) : (emptyLanes s).roster = s.roster := by simp [emptyLanes]

@[simp] theorem leaveState_service (s : State) : (leaveState s).service = s.service := by unfold leaveState; (repeat' split) <;> simp
@[simp] theorem leaveState_pins (s : State) : (leaveState s).pins = s.pins := by unfold leaveState; (repeat' split) <;> simp
@[simp] theorem leaveState_draws (s : State) : (leaveState s).draws = s.draws := by unfold leaveState; (repeat' split) <;> simp
@[simp] theorem leaveState_pending (s : State) : (leaveState s).pending = s.pending := by unfold leaveState; (repeat' split) <;> simp
@[simp] theorem leaveState_engine (s : State) : (leaveState s).engine = s.engine := by unfold leaveState; (repeat' split) <;> simp
@[simp] theorem leaveState_monitor (s : State) : (leaveState s).monitor = s.monitor := by unfold leaveState; (repeat' split) <;> simp
@[simp] theorem leaveState_table (s : State) : (leaveState s).table = s.table := by unfold leaveState; (repeat' split) <;> simp
@[simp] theorem leaveState_ann (s : State) : (leaveState s).ann = s.ann := by unfold leaveState; (repeat' split) <;> simp
@[simp] theorem leaveState_link (s : State) : (leaveState s).link = s.link := by unfold leaveState; (repeat' split) <;> simp

@[simp] theorem enterSilent_service (o : Orders) (st : StationState) (s : State) : (enterSilent o st s).service = s.service := by simp [enterSilent, stopPresence]
@[simp] theorem enterSilent_pins (o : Orders) (st : StationState) (s : State) : (enterSilent o st s).pins = s.pins := by simp [enterSilent, stopPresence]
@[simp] theorem enterSilent_draws (o : Orders) (st : StationState) (s : State) : (enterSilent o st s).draws = s.draws := by simp [enterSilent, stopPresence]
@[simp] theorem enterSilent_pending (o : Orders) (st : StationState) (s : State) : (enterSilent o st s).pending = s.pending := by simp [enterSilent, stopPresence]
@[simp] theorem enterSilent_monitor (o : Orders) (st : StationState) (s : State) : (enterSilent o st s).monitor = s.monitor := by simp [enterSilent, stopPresence]

@[simp] theorem enterRunning_service (s : State) : (enterRunning s).service = s.service := by simp [enterRunning]
@[simp] theorem enterRunning_pins (s : State) : (enterRunning s).pins = s.pins := by simp [enterRunning]
@[simp] theorem enterRunning_draws (s : State) : (enterRunning s).draws = s.draws := by simp [enterRunning]
@[simp] theorem enterRunning_pending (s : State) : (enterRunning s).pending = s.pending := by simp [enterRunning]
@[simp] theorem enterRunning_engine (s : State) : (enterRunning s).engine = s.engine := by simp [enterRunning]
@[simp] theorem enterRunning_monitor (s : State) : (enterRunning s).monitor = s.monitor := by simp [enterRunning]
@[simp] theorem enterRunning_table (s : State) : (enterRunning s).table = s.table := by simp [enterRunning]
@[simp] theorem enterRunning_ann (s : State) : (enterRunning s).ann = s.ann := by simp [enterRunning]
@[simp] theorem enterRunning_link (s : State) : (enterRunning s).link = s.link := by simp [enterRunning]

@[simp] theorem joinCore_service (c : JoinCause) (s : State) : (joinCore c s).service = s.service := by simp [joinCore]
@[simp] theorem joinCore_pins (c : JoinCause) (s : State) : (joinCore c s).pins = s.pins := by simp [joinCore]
@[simp] theorem joinCore_draws (c : JoinCause) (s : State) : (joinCore c s).draws = s.draws := by simp [joinCore]
@[simp] theorem joinCore_pending (c : JoinCause) (s : State) : (joinCore c s).pending = s.pending := by simp [joinCore]
@[simp] theorem joinCore_engine (c : JoinCause) (s : State) : (joinCore c s).engine = s.engine := by simp [joinCore]
@[simp] theorem joinCore_monitor (c : JoinCause) (s : State) : (joinCore c s).monitor = s.monitor := by simp [joinCore]
@[simp] theorem joinCore_table (c : JoinCause) (s : State) : (joinCore c s).table = s.table := by simp [joinCore]
@[simp] theorem joinCore_ann (c : JoinCause) (s : State) : (joinCore c s).ann = s.ann := by simp [joinCore]

@[simp] theorem enterJoining_service (o : Orders) (c : JoinCause) (s : State) : (enterJoining o c s).service = s.service := by unfold enterJoining; dsimp only; split <;> simp
@[simp] theorem enterJoining_pins (o : Orders) (c : JoinCause) (s : State) : (enterJoining o c s).pins = s.pins := by unfold enterJoining; dsimp only; split <;> simp
@[simp] theorem enterJoining_draws (o : Orders) (c : JoinCause) (s : State) : (enterJoining o c s).draws = s.draws := by unfold enterJoining; dsimp only; split <;> simp
@[simp] theorem enterJoining_pending (o : Orders) (c : JoinCause) (s : State) : (enterJoining o c s).pending = s.pending := by unfold enterJoining; dsimp only; split <;> simp
@[simp] theorem enterJoining_monitor (o : Orders) (c : JoinCause) (s : State) : (enterJoining o c s).monitor = s.monitor := by unfold enterJoining; dsimp only; split <;> simp

@[simp] theorem enterDeparted_service (o : Orders) (s : State) : (enterDeparted o s).service = s.service := by unfold enterDeparted; dsimp only; split <;> simp
@[simp] theorem enterDeparted_pins (o : Orders) (s : State) : (enterDeparted o s).pins = s.pins := by unfold enterDeparted; dsimp only; split <;> simp
@[simp] theorem enterDeparted_draws (o : Orders) (s : State) : (enterDeparted o s).draws = s.draws := by unfold enterDeparted; dsimp only; split <;> simp
@[simp] theorem enterDeparted_pending (o : Orders) (s : State) : (enterDeparted o s).pending = s.pending := by unfold enterDeparted; dsimp only; split <;> simp
@[simp] theorem enterDeparted_monitor (o : Orders) (s : State) : (enterDeparted o s).monitor = s.monitor := by unfold enterDeparted; dsimp only; split <;> simp

@[simp] theorem enterIsolated_service (o : Orders) (s : State) : (enterIsolated o s).service = s.service := by unfold enterIsolated startHold; dsimp only; split <;> simp
@[simp] theorem enterIsolated_pins (o : Orders) (s : State) : (enterIsolated o s).pins = s.pins := by unfold enterIsolated startHold; dsimp only; split <;> simp
@[simp] theorem enterIsolated_draws (o : Orders) (s : State) : (enterIsolated o s).draws = s.draws := by unfold enterIsolated startHold; dsimp only; split <;> simp
@[simp] theorem enterIsolated_pending (o : Orders) (s : State) : (enterIsolated o s).pending = s.pending := by unfold enterIsolated startHold; dsimp only; split <;> simp
@[simp] theorem enterIsolated_monitor (o : Orders) (s : State) : (enterIsolated o s).monitor = s.monitor := by unfold enterIsolated startHold; dsimp only; split <;> simp

@[simp] theorem enterDeparting_service (s : State) : (enterDeparting s).service = s.service := by simp [enterDeparting]
@[simp] theorem enterDeparting_pins (s : State) : (enterDeparting s).pins = s.pins := by simp [enterDeparting]
@[simp] theorem enterDeparting_draws (s : State) : (enterDeparting s).draws = s.draws := by simp [enterDeparting]
@[simp] theorem enterDeparting_pending (s : State) : (enterDeparting s).pending = s.pending := by simp [enterDeparting]
@[simp] theorem enterDeparting_engine (s : State) : (enterDeparting s).engine = s.engine := by simp [enterDeparting]
@[simp] theorem enterDeparting_monitor (s : State) : (enterDeparting s).monitor = s.monitor := by simp [enterDeparting]
@[simp] theorem enterDeparting_table (s : State) : (enterDeparting s).table = s.table := by simp [enterDeparting]
@[simp] theorem enterDeparting_ann (s : State) : (enterDeparting s).ann = s.ann := by simp [enterDeparting]

@[simp] theorem startAttempt_service (s : State) : (startAttempt s).service = s.service := by unfold startAttempt; (repeat' split) <;> simp
@[simp] theorem startAttempt_pins (s : State) : (startAttempt s).pins = s.pins := by unfold startAttempt; (repeat' split) <;> simp
@[simp] theorem startAttempt_draws (s : State) : (startAttempt s).draws = s.draws := by unfold startAttempt; (repeat' split) <;> simp
@[simp] theorem startAttempt_pending (s : State) : (startAttempt s).pending = s.pending := by unfold startAttempt; (repeat' split) <;> simp
@[simp] theorem startAttempt_control (s : State) : (startAttempt s).control = s.control := by unfold startAttempt; (repeat' split) <;> simp
@[simp] theorem startAttempt_engine (s : State) : (startAttempt s).engine = s.engine := by unfold startAttempt; (repeat' split) <;> simp
@[simp] theorem startAttempt_monitor (s : State) : (startAttempt s).monitor = s.monitor := by unfold startAttempt; (repeat' split) <;> simp
@[simp] theorem startAttempt_table (s : State) : (startAttempt s).table = s.table := by unfold startAttempt; (repeat' split) <;> simp
@[simp] theorem startAttempt_ann (s : State) : (startAttempt s).ann = s.ann := by unfold startAttempt; (repeat' split) <;> simp
@[simp] theorem startAttempt_roster (s : State) : (startAttempt s).roster = s.roster := by unfold startAttempt; (repeat' split) <;> simp
@[simp] theorem startAttempt_repair (s : State) : (startAttempt s).repair = s.repair := by unfold startAttempt; (repeat' split) <;> simp

@[simp] theorem takeArbLost_service (s : State) : (takeArbLost s).service = s.service := by unfold takeArbLost; dsimp only; (repeat' split) <;> simp
@[simp] theorem takeArbLost_pins (s : State) : (takeArbLost s).pins = s.pins := by unfold takeArbLost; dsimp only; (repeat' split) <;> simp
@[simp] theorem takeArbLost_draws (s : State) : (takeArbLost s).draws = s.draws := by unfold takeArbLost; dsimp only; (repeat' split) <;> simp
@[simp] theorem takeArbLost_pending (s : State) : (takeArbLost s).pending = s.pending := by unfold takeArbLost; dsimp only; (repeat' split) <;> simp
@[simp] theorem takeArbLost_control (s : State) : (takeArbLost s).control = s.control := by unfold takeArbLost; dsimp only; (repeat' split) <;> simp
@[simp] theorem takeArbLost_engine (s : State) : (takeArbLost s).engine = s.engine := by unfold takeArbLost; dsimp only; (repeat' split) <;> simp
@[simp] theorem takeArbLost_monitor (s : State) : (takeArbLost s).monitor = s.monitor := by unfold takeArbLost; dsimp only; (repeat' split) <;> simp
@[simp] theorem takeArbLost_table (s : State) : (takeArbLost s).table = s.table := by unfold takeArbLost; dsimp only; (repeat' split) <;> simp
@[simp] theorem takeArbLost_ann (s : State) : (takeArbLost s).ann = s.ann := by unfold takeArbLost; dsimp only; (repeat' split) <;> simp
@[simp] theorem takeArbLost_roster (s : State) : (takeArbLost s).roster = s.roster := by unfold takeArbLost; dsimp only; (repeat' split) <;> simp
@[simp] theorem takeArbLost_repair (s : State) : (takeArbLost s).repair = s.repair := by unfold takeArbLost; dsimp only; (repeat' split) <;> simp

@[simp] theorem takeCorrupt_service (b : List ReceivedByte) (s : State) : (takeCorrupt b s).service = s.service := by unfold takeCorrupt; split <;> simp
@[simp] theorem takeCorrupt_pins (b : List ReceivedByte) (s : State) : (takeCorrupt b s).pins = s.pins := by unfold takeCorrupt; split <;> simp
@[simp] theorem takeCorrupt_draws (b : List ReceivedByte) (s : State) : (takeCorrupt b s).draws = s.draws := by unfold takeCorrupt; split <;> simp
@[simp] theorem takeCorrupt_pending (b : List ReceivedByte) (s : State) : (takeCorrupt b s).pending = s.pending := by unfold takeCorrupt; split <;> simp
@[simp] theorem takeCorrupt_control (b : List ReceivedByte) (s : State) : (takeCorrupt b s).control = s.control := by unfold takeCorrupt; split <;> simp
@[simp] theorem takeCorrupt_engine (b : List ReceivedByte) (s : State) : (takeCorrupt b s).engine = s.engine := by unfold takeCorrupt; split <;> simp
@[simp] theorem takeCorrupt_monitor (b : List ReceivedByte) (s : State) : (takeCorrupt b s).monitor = s.monitor := by unfold takeCorrupt; split <;> simp
@[simp] theorem takeCorrupt_table (b : List ReceivedByte) (s : State) : (takeCorrupt b s).table = s.table := by unfold takeCorrupt; split <;> simp
@[simp] theorem takeCorrupt_ann (b : List ReceivedByte) (s : State) : (takeCorrupt b s).ann = s.ann := by unfold takeCorrupt; split <;> simp
@[simp] theorem takeCorrupt_roster (b : List ReceivedByte) (s : State) : (takeCorrupt b s).roster = s.roster := by unfold takeCorrupt; split <;> simp
@[simp] theorem takeCorrupt_repair (b : List ReceivedByte) (s : State) : (takeCorrupt b s).repair = s.repair := by unfold takeCorrupt; split <;> simp

@[simp] theorem presenceExpiry_service (s : State) : (presenceExpiry s).service = s.service := by unfold presenceExpiry; dsimp only; (repeat' split) <;> simp
@[simp] theorem presenceExpiry_pins (s : State) : (presenceExpiry s).pins = s.pins := by unfold presenceExpiry; dsimp only; (repeat' split) <;> simp
@[simp] theorem presenceExpiry_draws (s : State) : (presenceExpiry s).draws = s.draws := by unfold presenceExpiry; dsimp only; (repeat' split) <;> simp
@[simp] theorem presenceExpiry_pending (s : State) : (presenceExpiry s).pending = s.pending := by unfold presenceExpiry; dsimp only; (repeat' split) <;> simp
@[simp] theorem presenceExpiry_control (s : State) : (presenceExpiry s).control = s.control := by unfold presenceExpiry; dsimp only; (repeat' split) <;> simp
@[simp] theorem presenceExpiry_engine (s : State) : (presenceExpiry s).engine = s.engine := by unfold presenceExpiry; dsimp only; (repeat' split) <;> simp
@[simp] theorem presenceExpiry_monitor (s : State) : (presenceExpiry s).monitor = s.monitor := by unfold presenceExpiry; dsimp only; (repeat' split) <;> simp
@[simp] theorem presenceExpiry_table (s : State) : (presenceExpiry s).table = s.table := by unfold presenceExpiry; dsimp only; (repeat' split) <;> simp
@[simp] theorem presenceExpiry_ann (s : State) : (presenceExpiry s).ann = s.ann := by unfold presenceExpiry; dsimp only; (repeat' split) <;> simp
@[simp] theorem presenceExpiry_repair (s : State) : (presenceExpiry s).repair = s.repair := by unfold presenceExpiry; dsimp only; (repeat' split) <;> simp

@[simp] theorem ownDelivered_service (o : Orders) (lane : Lane) (s : State) : (ownDelivered o lane s).service = s.service := by simp [ownDelivered]
@[simp] theorem ownDelivered_pins (o : Orders) (lane : Lane) (s : State) : (ownDelivered o lane s).pins = s.pins := by simp [ownDelivered]
@[simp] theorem ownDelivered_draws (o : Orders) (lane : Lane) (s : State) : (ownDelivered o lane s).draws = s.draws := by simp [ownDelivered]
@[simp] theorem ownDelivered_pending (o : Orders) (lane : Lane) (s : State) : (ownDelivered o lane s).pending = s.pending := by simp [ownDelivered]
@[simp] theorem ownDelivered_control (o : Orders) (lane : Lane) (s : State) : (ownDelivered o lane s).control = s.control := by simp [ownDelivered]
@[simp] theorem ownDelivered_monitor (o : Orders) (lane : Lane) (s : State) : (ownDelivered o lane s).monitor = s.monitor := by simp [ownDelivered]
@[simp] theorem ownDelivered_roster (o : Orders) (lane : Lane) (s : State) : (ownDelivered o lane s).roster = s.roster := by simp [ownDelivered]

/-! ### The emptied lanes (R99) -/

/-- After the emptying the lanes are empty, nothing is on the medium and the consecutive-undelivered count is 0. -/
theorem emptyLanes_link (s : State) :
    (emptyLanes s).link = { s.link with lanes := .empty, sending := none, undeliveredRun := 0 } := by
  simp [emptyLanes]; rfl

/-- Entry into a silent state ends with the lanes emptied and that station state. -/
theorem enterSilent_station (o : Orders) (st : StationState) (s : State) : (enterSilent o st s).control.station = st := by
  simp [enterSilent, stopPresence]

end Sys2Proof.Machine
end

