-- ==== Sys2Proof/Laws/Requests.lean ====
section
/-! SUPPORT. What the lanes do with a request for a mark, for the DUMP mark and for a withdrawal, and what an emptying leaves (R14, R94,
R96, R99, R142). -/

namespace Sys2Proof.Machine

/-! ### Whose attempt is on the medium -/

/-- A lane's head is on the medium exactly where a frame of that lane is being sent. -/
theorem onAir_iff (s : State) (lane : Lane) : s.onAir lane = true ↔ ∃ a, s.link.sending = some a ∧ a.lane = lane := by
  unfold State.onAir
  split
  · next a h => simp [h]
  · next h => simp [h]

/-- A receiver has no frame of its own on the medium. -/
theorem onAir_of_receives (s : State) (lane : Lane) (h : s.receives = true) : s.onAir lane = false := by
  have hn : s.link.sending = none := by
    simp only [State.receives, Bool.and_eq_true, Option.isNone_iff_eq_none] at h
    exact h.2
  simp [State.onAir, hn]

/-! ### The REPORT lane (R94) -/

/-- A point without a mark joins the tail. -/
theorem requestMark_unmarked (onAir : Bool) (p : PointNo) (marks : List ReportMark) (h : ∀ m ∈ marks, m.point ≠ p) :
    requestMark onAir p marks = marks ++ [freshMark p] := by
  have : marks.any (fun m => m.point == p) = false := by simpa using h
  simp [requestMark, this]

/-- The head whose attempt is on the medium is flagged again in place. -/
theorem requestMark_sent (p : PointNo) (m : ReportMark) (rest : List ReportMark) (h : m.point = p) :
    requestMark true p (m :: rest) = { m with again := true } :: rest := by
  simp [requestMark, h]

/-- Any other mark of the point stays as it is. -/
theorem requestMark_waiting (onAir : Bool) (p : PointNo) (marks : List ReportMark) (h : ∃ m ∈ marks, m.point = p)
    (hw : ∀ m rest, onAir = true → marks = m :: rest → m.point ≠ p) : requestMark onAir p marks = marks := by
  have : marks.any (fun m => m.point == p) = true := by simpa using h
  unfold requestMark
  rw [if_pos this]
  cases marks with
  | nil => rfl
  | cons m rest =>
    have := hw m rest
    grind

/-! ### The DUMP mark (R96) -/

/-- With no DUMP mark in the lane, one joins the tail. -/
theorem requestDumpMark_unmarked (onAir : Bool) (lane : List RepairEntry) (h : lane.any RepairEntry.isDump = false) :
    requestDumpMark onAir lane = lane ++ [freshRepair (.dump false)] := by
  simp [requestDumpMark, h]

/-- The DUMP mark whose attempt is on the medium is flagged again in place. -/
theorem requestDumpMark_sent (e : RepairEntry) (rest : List RepairEntry) (h : e.isDump = true) :
    requestDumpMark true (e :: rest) = { e with work := .dump true } :: rest := by
  simp [requestDumpMark, h]

/-- A DUMP mark that waits stays as it is. -/
theorem requestDumpMark_waiting (onAir : Bool) (lane : List RepairEntry) (h : lane.any RepairEntry.isDump = true)
    (hw : ∀ e rest, onAir = true → lane = e :: rest → e.isDump = false) : requestDumpMark onAir lane = lane := by
  unfold requestDumpMark
  rw [if_pos h]
  cases lane with
  | nil => rfl
  | cons e rest =>
    have := hw e rest
    grind

/-! ### Withdrawals (R142) -/

/-- The element on the medium is passed over. -/
theorem withdrawIn_sent (o : StationNo) (e : RepairEntry) (rest : List RepairEntry) :
    withdrawIn true o (e :: rest) = e :: withdrawIn false o rest := rfl

/-- Each waiting element is treated alone. -/
theorem withdrawIn_waiting (o : StationNo) (lane : List RepairEntry) :
    withdrawIn false o lane = lane.filterMap (withdrawFrom o) := rfl

/-- No waiting request names the owner afterwards. -/
theorem withdrawFrom_names (o : StationNo) (e e' : RepairEntry) (owners : List StationNo) (h : withdrawFrom o e = some e')
    (hw : e'.work = .request owners) : o ∉ owners := by
  unfold withdrawFrom at h
  grind

/-! ### The emptying (R14, R69, R99) -/

/-- OPERATOR_DROPPED advances once for each OPERATOR entry. -/
theorem emptyLanes_operatorDropped (s : State) :
    (emptyLanes s).ann.operatorDropped = Counter.bumpBy s.link.lanes.operator.length s.ann.operatorDropped := by
  have one (p : PointNo) (u : State) : (localDeliver p u).ann.operatorDropped = u.ann.operatorDropped := by
    unfold localDeliver
    split
    · unfold takeChange; dsimp only; split <;> rfl
    · rfl
  have all (l : List ReportMark) (u : State) :
      (l.foldl (fun t m => localDeliver m.point t) u).ann.operatorDropped = u.ann.operatorDropped := by
    induction l generalizing u with
    | nil => rfl
    | cons m rest ih => rw [List.foldl_cons, ih, one]
  rw [emptyLanes, all]
  rfl

end Sys2Proof.Machine
end

