-- ==== Sys2Proof/Laws/Table.lean ====
section
/-! SUPPORT. What the Alarm Table's whole-owner changes and a revival make of the table, in the words of Safety.lean, and the ways to
show that a command leaves a table. -/

namespace Sys2Proof.Machine

/-- Stale marking and its reversal rewrite the entries in place and keep the slots (R49, R50). -/
@[simp] theorem setStale_table (stale : Bool) (n : StationNo) (ch : Change) :
    (setStale stale n ch).table = { ch.table with entries := staleAs stale n ch.table.entries } := rfl

@[simp] theorem length_staleAs (stale : Bool) (n : StationNo) (es : List Entry) : (staleAs stale n es).length = es.length := by
  simp [staleAs]

/-- The stale flag is no part of a condition, so marking keeps the conditions and their order. -/
@[simp] theorem conditions_staleAs (stale : Bool) (n : StationNo) (es : List Entry) :
    (staleAs stale n es).map Entry.condition = es.map Entry.condition := by
  simp only [staleAs, List.map_map]
  refine List.map_congr_left fun e _ => ?_
  simp only [Function.comp_apply]
  split <;> rfl

/-- Every entry of the owner has the flag afterwards. -/
theorem stale_of_mem_staleAs {stale : Bool} {n : StationNo} {es : List Entry} {e : Entry} (h : e ∈ staleAs stale n es)
    (ho : e.owner = n) : e.stale = stale := by
  obtain ⟨x, _, rfl⟩ := List.mem_map.mp h
  by_cases hx : x.owner = n
  · simp [hx]
  · simp only [hx, if_false] at ho

/-- The entries of every other owner are untouched and in their order. -/
theorem filter_staleAs (stale : Bool) (n : StationNo) (p : Entry → Bool) (hp : ∀ e, p e = true → e.owner ≠ n)
    (hs : ∀ (e : Entry) (b : Bool), p { e with stale := b } = p e) (es : List Entry) :
    (staleAs stale n es).filter p = es.filter p := by
  unfold staleAs
  induction es with
  | nil => rfl
  | cons e es ih =>
    by_cases he : e.owner = n
    · have h0 : p e = false := by
        cases h : p e with
        | false => rfl
        | true => exact absurd he (hp e h)
      rw [List.map_cons, if_pos he, List.filter_cons, List.filter_cons, hs, h0]
      exact ih
    · rw [List.map_cons, if_neg he, List.filter_cons, List.filter_cons, ih]

/-- The table after the Roster's revival of a station (R50, R124). -/
theorem revive_table (n : StationNo) (s : State) :
    (revive n s).table = { s.table with entries := s.heardEntries n } := by
  unfold revive State.heardEntries
  split <;> rename_i h <;> simp [h, Membership.unheard]

/-- The Roster's take of a frame does no more to the table than its revival. -/
theorem rosterTake_table (n : StationNo) (f : RosterEntry → RosterEntry) (s : State) :
    (rosterTake n f s).table = { s.table with entries := s.heardEntries n } := revive_table n s

/-- A command that leaves exactly the table `u` leaves it in the sense of `State.leavesTable`. -/
theorem leavesTable_of_eq {s : State} {u : AlarmTable} {t : State} (h : t.table = u) : s.leavesTable u t := by
  subst h
  exact ⟨fun _ => rfl, rfl, fun _ _ h => h, fun _ _ _ h => h, rfl, fun _ => ⟨rfl, rfl⟩⟩

/-- Where changes are handed over by REPORT marks, to leave a table is to hold exactly it. -/
theorem leavesTable_iff_of_marks {s : State} {u : AlarmTable} {t : State} (h : s.marks = true) :
    s.leavesTable u t ↔ t.table = u := ⟨fun hl => hl.1 (Or.inl h), leavesTable_of_eq⟩

end Sys2Proof.Machine
end

