-- ==== Sys2Proof/Tests/Slice0.lean ====
section
/-! SUPPORT. The model's own tests: ill-formed commands, the spec's byte examples, one-step tests, and for each statement with
hypotheses a concrete state that meets them (`witness_…`). -/

namespace Sys2Proof.Tests

open Sys2Proof.Machine

-- one theorem after another: many at once would ask for more threads than the memory limit allows
set_option Elab.async false

/-! ### Ill-formed commands are refused by the check -/

theorem test_operator_to_its_source :
    Instr.wellFormed (.operatorDelivered (station 4) ⟨station 4, .ack, [⟨0, 0#8⟩]⟩) = false := by decide

theorem test_operator_without_items :
    Instr.wellFormed (.operatorDelivered (station 4) ⟨station 5, .ack, []⟩) = false := by decide

theorem test_operator_of_18_items :
    Instr.wellFormed (.operatorDelivered (station 4) ⟨station 5, .ack, List.replicate 18 ⟨0, 0#8⟩⟩) = false := by decide

theorem test_operator_good :
    Instr.wellFormed (.operatorDelivered (station 4) ⟨station 5, .ack, List.replicate 17 ⟨0, 0#8⟩⟩) = true := by decide

theorem test_resync_empty : Instr.wellFormed (.resyncRequestDelivered (station 4) []) = false := by decide

theorem test_resync_of_its_source : Instr.wellFormed (.resyncRequestDelivered (station 4) [station 4]) = false := by decide

theorem test_resync_twice :
    Instr.wellFormed (.resyncRequestDelivered (station 4) [station 5, station 5]) = false := by decide

theorem test_resync_of_48 :
    Instr.wellFormed (.resyncRequestDelivered (station 48) StationNo.all) = false := by decide

theorem test_resync_good : Instr.wellFormed (.resyncRequestDelivered (station 4) [station 5, station 6]) = true := by decide

theorem test_dump_of_18_records :
    Instr.wellFormed (.dumpDelivered (station 4) ⟨0#8, List.replicate 18 ⟨0, .alert, 1#8, 0, true, true, false⟩⟩) = false := by
  decide

theorem test_dump_not_rising :
    Instr.wellFormed
      (.dumpDelivered (station 4)
        ⟨0#8, [⟨3, .alert, 1#8, 0, true, true, false⟩, ⟨3, .acked, 1#8, 0, true, true, false⟩]⟩) = false := by decide

theorem test_frame_of_261_bytes :
    Instr.wellFormed (.frameReceivedCorrupt (List.replicate 261 ⟨0#8, true⟩)) = false := by decide +kernel

theorem test_request_too_long (payload : List Byte) (h : payload.length = 65536) (check : Byte) :
    Instr.wellFormed (.status ⟨payload, check⟩) = false := by
  simp [Instr.wellFormed, RequestBody.wellFormed, h]

theorem test_known_kind_is_not_unknown : Instr.wellFormed (.unknownRequestKind 6#8 ⟨[], 0#8⟩) = false := by decide

/-! ### The spec's bytes (chapter 6) -/

/-- R103: the check value of the nine characters 1 to 9. -/
theorem test_check_value_example :
    crc16 [0x31#8, 0x32#8, 0x33#8, 0x34#8, 0x35#8, 0x36#8, 0x37#8, 0x38#8, 0x39#8] = 0x29B1#16 := by decide +kernel

/-- R102, R112: a good LEAVE, the same bytes with one bit wrong, with a bad stop bit, and cut short. -/
theorem test_judge_leave :
    judge (onMedium ⟨station 18, .leave .supplyLow⟩) = some ⟨station 18, .leave .supplyLow⟩ ∧
      judge ((onMedium ⟨station 18, .leave .supplyLow⟩).drop 1) = none ∧
      judge ((onMedium ⟨station 18, .leave .supplyLow⟩).map (fun b => { b with stopOk := false })) = none ∧
      judge ((onMedium ⟨station 18, .leave .supplyLow⟩).take 4) = none := by decide +kernel

/-- R106: an OPERATOR frame reads back, and one to its own source is corrupt. -/
theorem test_judge_operator :
    judge (onMedium ⟨station 3, .operator ⟨station 7, .restore, [⟨2, 9#8⟩]⟩⟩) =
        some ⟨station 3, .operator ⟨station 7, .restore, [⟨2, 9#8⟩]⟩⟩ ∧
      judge (onMedium ⟨station 3, .operator ⟨station 3, .restore, [⟨2, 9#8⟩]⟩⟩) = none := by decide +kernel

/-! ### A valid setup image -/

/-- Bytes 0 to 21: rate, interval, scope, health group, group records and the first point records. -/
def imageHead : List Byte :=
  [1#8, 1#8, 2#8, 0#8, 0xFF#8, 7#8] ++ List.replicate 7 0x0F#8 ++ [0#8, 1#8, 0#8, 1#8, 0#8, 1#8, 2#8, 0x0D#8, 1#8]

/-- Bytes 46 to 63: six output records. -/
def imageOutputs : List Byte :=
  [2#8, 0#8, 0#8, 3#8, 0#8, 0#8, 4#8, 0#8, 0#8, 5#8, 0#8, 0#8, 7#8, 0#8, 0#8, 1#8, 4#8, 2#8]

/-- The 96 bytes, the check value last. -/
def imageBytes : List Byte :=
  imageHead ++ List.replicate 24 0#8 ++ imageOutputs ++ List.replicate 30 0#8 ++ [0x26#8, 0xEC#8]

/-- The image of those bytes. -/
def testImage : Image := ⟨imageBytes.toArray, by decide⟩

theorem crc_head : imageHead.foldl crcByte 0xFFFF#16 = 59908#16 := by decide +kernel
theorem crc_middle : (List.replicate 24 0#8).foldl crcByte 59908#16 = 61731#16 := by decide +kernel
theorem crc_outputs : imageOutputs.foldl crcByte 61731#16 = 39996#16 := by decide +kernel
theorem crc_tail : (List.replicate 30 0#8).foldl crcByte 39996#16 = 0x26EC#16 := by decide +kernel

theorem image_split :
    testImage.toList.take 94 = imageHead ++ List.replicate 24 0#8 ++ imageOutputs ++ List.replicate 30 0#8 := by decide +kernel

theorem image_crc : crc16 (testImage.toList.take 94) = 0x26EC#16 := by
  rw [image_split]
  unfold crc16
  rw [List.foldl_append, List.foldl_append, List.foldl_append, crc_head, crc_middle, crc_outputs, crc_tail]

/-- R172: the image passes validation. -/
theorem test_image_valid : imageValid testImage = true := by
  unfold imageValid imageRefusal?
  rw [image_crc]
  decide +kernel

/-- The image with its last check byte changed. -/
def spoiledImage : Image := testImage.set 95 0xED#8

theorem spoiled_split : spoiledImage.toList.take 94 = testImage.toList.take 94 := by decide +kernel

/-- R172 step 2: a wrong check value is BAD_CHECK. -/
theorem test_image_bad_check : imageRefusal? spoiledImage = some (.badCheck, 0#8) := by
  unfold imageRefusal?
  rw [spoiled_split, image_crc]
  decide +kernel

/-! ### Small states -/

/-- A station out of reset in a station state, as number 20, with nothing loaded. -/
def stationIn (st : StationState) : State :=
  { State.reset with
    control := { State.reset.control with station := st, number := 20#6, inReset := false, powerLost := false } }

/-- A station in RUNNING that has sensed a gap. -/
def running : State := (stationIn .running).withLink { LinkController.atReset with gapSensed := true }

/-- The own number. -/
def own : StationNo := station 20

/-- Another station. -/
def peer : StationNo := station 4

/-- A station in SETUP_WAIT with its window running and a store as given. -/
def waiting (status : StoreStatus) (img : Image) : State :=
  let s := stationIn .setupWait
  s.withControl { s.control with storeStatus := status, storeImage := img, setupWindow := .running 3000 2999 }

/-- A station in STORING with a write in progress and the answer owed. -/
def storing : State :=
  let s := stationIn .storing
  (s.withControl { s.control with storeStatus := .corrupt, storeWrite := some testImage, setupAccepted := true }).withService
    { ServicePort.atReset with answerOwed := true }

/-- The same state with the straps at no station's number. -/
def unnumbered (s : State) : State := s.withControl { s.control with number := 0#6 }

/-- The same state with a frame on the medium, the lane's head having failed `failed` times. -/
def sending (lane : Lane) (p : Payload) (l : Lanes) (s : State) : State :=
  s.withLink { s.link with lanes := l, sending := some ⟨lane, ⟨own, p⟩⟩ }

/-- Lanes with one mark, of a point that has failed `failed` times. -/
def oneMark (failed : Nat) : Lanes := { Lanes.empty with report := [⟨2, false, failed + 1, failed⟩] }

/-- Lanes with one frame in the ROLL slot. -/
def oneRoll (k : RollKind) (failed : Nat) : Lanes := { Lanes.empty with roll := some ⟨k, failed + 1, failed⟩ }

/-- The contents of a REPORT of point 2. -/
def report (st : SeqState) (rev : Revision) : PointReport := ⟨2, st, rev, 1, true, true⟩

/-- An entry of a station's point 2. -/
def entryOf (o : StationNo) (st : EntryState) : Entry := ⟨o, 2, 1, st, 1#8, true, true, false⟩

/-- The same state with entries in the table. -/
def holding (es : List Entry) (s : State) : State := s.withTable { s.table with entries := es }

/-- A table whose slot of group 1 names its one entry. -/
def tableOfPeer : AlarmTable :=
  { AlarmTable.atReset with entries := [entryOf peer .alert], slots := AlarmTable.atReset.slots.set 1 (some ⟨peer, 2⟩) }

/-- The state a command leaves. -/
def after (c : Instr) (s : State) : State :=
  match exec c s with
  | .next t => t
  | .fault _ => s
  | .refused _ => s

/-! ### Witnesses: reset, start, setup and supply -/

theorem witness_StepRunsFrontCommandOrIdles : State.reset.pending = [] := rfl

theorem witness_ResetCommandsRestoreEveryBlock :
    storing.control.storeWrite = some testImage ∧ running.control.storeWrite = none := by decide +kernel

theorem witness_LeavingResetSetsRecordAndStraps :
    (State.reset.control.inReset = true ∧ State.reset.control.powerLost = true) ∧
    (let s := State.reset.withControl { State.reset.control with powerLost := false, supplyFell := true }
     s.control.inReset = true ∧ s.control.powerLost = false ∧ s.control.supplyFell = true) ∧
    (let s := State.reset.withControl { State.reset.control with powerLost := false }
     s.control.inReset = true ∧ s.control.powerLost = false ∧ s.control.supplyFell = false) := by decide +kernel

theorem witness_PartInResetTakesNoEvent :
    State.reset.control.inReset = true ∧ Instr.inputLevelChange 15 true ≠ .powerOn ∧ Instr.inputLevelChange 15 true ≠ .resetPin ∧
      Instr.inputLevelChange 15 true ≠ .supplyLow ∧ ∀ straps, Instr.inputLevelChange 15 true ≠ .leaveReset straps := by
  refine ⟨rfl, ?_, ?_, ?_, ?_⟩ <;> intros <;> exact Instr.noConfusion

theorem witness_WindowExpiryExaminesStore :
    (∀ s ∈ [waiting .blank testImage, waiting .corrupt testImage, waiting .valid spoiledImage, waiting .valid testImage,
        unnumbered (waiting .valid testImage)],
      s.control.inReset = false ∧ s.control.station = .setupWait ∧ s.control.setupWindow.isRunning = true) ∧
    imageValid spoiledImage = false ∧ imageValid testImage = true ∧
    (waiting .valid testImage).me ≠ none ∧ (unnumbered (waiting .valid testImage)).me = none := by
  refine ⟨by decide +kernel, ?_, test_image_valid, by decide +kernel, by decide +kernel⟩
  unfold imageValid
  rw [test_image_bad_check]
  rfl

theorem witness_SetupTakesEffectInEveryBlock :
    (let s := waiting .valid testImage
     s.control.inReset = false ∧ s.control.station = .setupWait ∧ s.control.setupWindow.isRunning = true ∧
       s.control.storeStatus = .valid ∧ s.me ≠ none ∧ s.control.supply = .normal ∧ s.control.storeImage = testImage) ∧
    imageValid testImage = true ∧
    (storing.control.inReset = false ∧ storing.me ≠ none ∧ storing.control.supply = .normal ∧
      storing.control.station = .storing ∧ storing.control.storeWrite = some testImage) ∧
    (let img := ((((testImage.set 2 3#8).set 3 1#8).set 91 1#8).set 92 48#8).set 93 16#8
     img[2].toNat ≤ 3 ∧ img[3].toNat ≤ 1 ∧ img[5].toNat ≤ 7 ∧ img[45].toNat ≤ 7 ∧ img[91].toNat % 16 = 1 ∧
       img[92].toNat = (station 48).number ∧ img[93].toNat = (16 : PointNo).val) ∧
    (∀ kind ∈ [0#8, 2#8, 3#8, 4#8, 5#8, 6#8, 7#8],
      (testImage.set 91 kind)[91].toNat % 16 = kind.toNat ∧ (testImage.set 91 kind)[92].toNat = (0 : GroupNo).val) := by
  exact ⟨by decide +kernel, test_image_valid, by decide +kernel, by decide +kernel, by decide +kernel⟩

theorem witness_StoreWriteCompletionLoadsSetup :
    (storing.control.inReset = false ∧ storing.control.station = .storing ∧ storing.control.storeWrite = some testImage ∧
      storing.me ≠ none ∧ storing.service.answerOwed = true ∧ storing.service.response = none ∧ storing.service.rx = none) ∧
    (unnumbered storing).me = none := by decide +kernel

/-- The same state with a PRESENCE in the ROLL slot, its attempt on the medium. -/
def presenceOnAir (s : State) : State :=
  sending .roll (.presence ⟨0#8, .ms1000, 0, 0#16, 0⟩) (oneRoll .presence 0) s

/-- JOINING after the own JOIN's delivery, with a gap sensed. -/
def joined : State := (stationIn .joining).withLink { LinkController.atReset with gapSensed := true, lanesOpen := true }

theorem witness_SupplyMonitorMovesTheStation :
    (running.control.inReset = false ∧ running.control.supply = .normal ∧ running.control.station = .running ∧
      running.link.sending = none) ∧
    (∀ s ∈ [running, joined],
      let u := presenceOnAir s
      u.control.supply = .normal ∧ u.link.sending = some ⟨.roll, ⟨own, .presence ⟨0#8, .ms1000, 0, 0#16, 0⟩⟩⟩ ∧
        u.link.lanes.roll = some ⟨.presence, 1, 0⟩) ∧
    (joined.control.station = .joining ∧ joined.link.lanesOpen = true) ∧
    (∀ st ∈ [StationState.listening, .isolated, .joining],
      let s := stationIn st
      s.control.inReset = false ∧ s.control.supply = .normal ∧ s.control.station = st ∧ s.link.lanesOpen = false) ∧
    (∀ st ∈ [StationState.departed, .departing],
      let s := stationIn st
      let low := s.withControl { s.control with supply := .low }
      low.control.inReset = false ∧ low.control.supply = .low ∧ low.control.station = st) := by decide +kernel

/-! ### Witnesses: field lines and the alarm sequence -/

/-- RUNNING with an input's timer running and its point enabled. -/
def timed (r : InputRecord) (p : PointRecord) : State := (running.setInput 3 r).setPoint 3 p

/-- A maintained input at rest, its timer running. -/
def restingInput : InputRecord := { InputRecord.atReset with enabled := true, timer := .running 10 9 }

/-- An enabled maintained point in a state. -/
def pointIn (st : SeqState) : PointRecord := { PointRecord.atReset 3 with enabled := true, state := st }

theorem witness_LineChangeMovesItsTimer :
    running.active = true ∧ running.pins.inputs[(15 : LineNo)] ≠ true ∧
      ∀ k ∈ [Button.ack, .restore, .silence, .test], running.pins.buttons.get k ≠ false := by decide +kernel

theorem witness_InputEventsFollowSensitivity :
    (InputRecord.atReset.enabled = false ∧ true ≠ InputRecord.atReset.qualified) ∧
    (restingInput.enabled = true ∧ restingInput.sensitivity = .maintained ∧ restingInput.qualified = false) ∧
    (let r := { restingInput with qualified := true }
     r.enabled = true ∧ r.sensitivity = .maintained ∧ r.qualified = true) ∧
    (let r := { restingInput with sensitivity := .momentary }
     r.enabled = true ∧ r.sensitivity = .momentary ∧ r.qualified = false) := by decide +kernel

theorem witness_QualificationExpiryRaisesEvent :
    let s := (timed restingInput (pointIn .normal)).withPins { running.pins with inputs := Vector.replicate 16 true }
    let quiet := timed restingInput (pointIn .normal)
    (s.active = true ∧ (s.input 3).timer.isRunning = true ∧ (s.input 3).event (s.sensedInput 3) = some .assert ∧
      (s.point (linePoint 3)).enabled = true ∧
      fieldMove (s.groupOptions (s.point (linePoint 3)).group) (s.point (linePoint 3)).state .assert = some .alert) ∧
    (quiet.active = true ∧ (quiet.input 3).timer.isRunning = true ∧ (quiet.input 3).event (quiet.sensedInput 3) = none) := by
  decide +kernel

theorem witness_FieldEventsFollowTheTable :
    (timed restingInput (pointIn .normal)).active = true ∧ ((timed restingInput (pointIn .normal)).point 3).enabled = true ∧
      restingInput.event true = some .assert ∧
      { restingInput with sensitivity := .momentary }.event true = some .capture := by decide +kernel

theorem witness_ItemsFollowTheTable :
    ((timed restingInput (pointIn .alert)).point 3).revision = 0#8 ∧
      ((timed restingInput (pointIn .alert)).point 3).state = .alert ∧ ∃ t, exec .resetPin running = .next t :=
  ⟨by decide +kernel, by decide +kernel, _, rfl⟩

theorem witness_ChangesAreHandedOver :
    (running.me = some own ∧ running.marks = true ∧ (∀ m ∈ running.link.lanes.report, m.point ≠ 16) ∧
      (stationIn .isolated).me = some own ∧ (stationIn .isolated).marks = false) ∧
    (let s := sending .report (.report (report .alert 1#8)) (oneMark 0) running
     s.me = some own ∧ s.marks = true ∧ s.link.sending = some ⟨.report, ⟨own, .report (report .alert 1#8)⟩⟩ ∧
       s.link.lanes.report = ⟨2, false, 1, 0⟩ :: [] ∧ (oneMark 0).report = [⟨2, false, 1, 0⟩]) ∧
    (let s := running.withLanes (oneMark 7)
     s.me = some own ∧ s.marks = true ∧ s.link.sending = none ∧ ⟨2, false, 8, 7⟩ ∈ s.link.lanes.report) := by
  decide +kernel

/-! ### Witnesses: the operator -/

/-- A state with a button's timer running, its qualified level and its pin as given. -/
def handOn (k : Button) (pressed high : Bool) (s : State) : State :=
  (s.setButton k { pressed := pressed, timer := .running 20 19 }).withPins { s.pins with buttons := s.pins.buttons.put high k }

theorem witness_SilenceTestAndReleasesActOnThePanelAlone :
    (∀ k ∈ [Button.silence, .test],
      let s := handOn k false false running
      s.active = true ∧ s.anyCause = s.engine.healthLevel ∧ (s.button k).timer.isRunning = true) ∧
    (∀ k ∈ [Button.ack, .restore, .silence, .test],
      let s := handOn k true true running
      s.active = true ∧ s.anyCause = s.engine.healthLevel ∧ (s.button k).timer.isRunning = true ∧ s.sensedButton k = false) := by
  decide +kernel

theorem witness_PressTakesSnapshot :
    (∀ k ∈ [Button.ack, .restore], ∀ st ∈ [StationState.running, .isolated],
      let s := handOn k false false (stationIn st)
      s.active = true ∧ s.me = some own ∧ s.anyCause = s.engine.healthLevel ∧
        (s.table.overflow = s.table.tableOverflow ∧ s.table.overflow = false) ∧ (s.button k).timer.isRunning = true ∧
        s.sensedButton k = true ∧ (s.button k).pressed = false) ∧
    ((stationIn .running).marks = true ∧ (stationIn .running).control.station.silent = false) ∧
    ((stationIn .isolated).marks = false ∧ (stationIn .isolated).control.station.silent = true ∧
      tableLaw (stationIn .isolated).me (stationIn .isolated).table ∧ hornLaw (stationIn .isolated)) := by
  refine ⟨by decide +kernel, by decide +kernel, by decide +kernel, by decide +kernel, ?_, ?_⟩
  · unfold tableLaw; decide +kernel
  · unfold hornLaw; decide +kernel

/-- An OPERATOR entry for a station's points. -/
def operatorFor (o : StationNo) (a : Action) (inTransmission : Bool) : OperatorEntry :=
  ⟨o, a, [⟨2, 1#8⟩], inTransmission, 0, 0⟩

theorem witness_OwnerGroupsMergeOrJoin :
    ((some own = some (entryOf own .alert).owner) ∧ some own ≠ some (entryOf peer .alert).owner ∧
      peer ∉ remoteOwners (some own) [] ∧ peer ∈ remoteOwners (some own) [entryOf peer .alert]) ∧
    ((2 : PointNo) ∈ [Item.mk 2 1#8].map (fun x => x.point) ∧ (16 : PointNo) ∉ [Item.mk 2 1#8].map (fun x => x.point)) ∧
    ((running.withLanes { Lanes.empty with operator := [operatorFor peer .ack true, operatorFor peer .ack false] }).link.lanes.operator =
        [operatorFor peer .ack true] ++ operatorFor peer .ack false :: [] ∧
      [operatorFor peer .ack true].any (mergeable peer .ack) = false ∧ mergeable peer .ack (operatorFor peer .ack false) = true) ∧
    [operatorFor peer .ack false].any (mergeable peer .ack) = true ∧
      ((itemsFor peer [entryOf peer .alert]).map (fun i => i.point)).Nodup ∧
      ([operatorFor peer .ack true].any (mergeable peer .ack) = false ∧ [operatorFor peer .ack true].length < 12) ∧
      ((List.replicate 12 (operatorFor peer .restore false)).any (mergeable peer .ack) = false ∧
        12 ≤ (List.replicate 12 (operatorFor peer .restore false)).length) := by decide +kernel

/-! ### Witnesses: windows and timers -/

/-- The same state with a LOW supply. -/
def lowSupply (s : State) : State := s.withControl { s.control with supply := .low }

/-- LISTENING with the listen window running. -/
def listening : State := (stationIn .listening).withRoster { Roster.atReset with listenWindow := .running 3000 0 }

/-- ISOLATED with the hold running. -/
def isolated : State :=
  (stationIn .isolated).withControl { (stationIn .isolated).control with isolationHold := .running 2000 0 }

/-- JOINING with the join window running. -/
def joining : State := (stationIn .joining).withRoster { Roster.atReset with joinWindow := .running 2000 0 }

/-- A PRESENT entry with its silence timer running. -/
def presentEntry : RosterEntry := ⟨.present, some 0#8, none, .ms250, .running 750 0⟩

/-- RUNNING with the peer PRESENT. -/
def withPeer (s : State) : State := s.setMember peer presentEntry

theorem witness_ListenAndHoldExpiriesJoin :
    (∀ s ∈ [listening, lowSupply listening],
      s.active = true ∧ s.control.station = .listening ∧ s.roster.listenWindow.isRunning = true) ∧
    (∀ s ∈ [isolated, lowSupply isolated],
      s.active = true ∧ s.control.station = .isolated ∧ s.control.isolationHold.isRunning = true) := by decide +kernel

theorem witness_JoinWindowRunsAndPresenceRecurs :
    (joining.active = true ∧ joining.control.station = .joining ∧ joining.roster.joinWindow.isRunning = true) ∧
    (let s := running.withRoster { Roster.atReset with presence := .running 500 0 }
     s.active = true ∧ s.roster.presence.isRunning = true) := by decide +kernel

/-- JOINING with stations awaited, the peer PRESENT, and its request waiting in the REPAIR lane. -/
def awaiting (stations : List StationNo) : State :=
  let s := withPeer (joined.withRoster { Roster.atReset with awaited := stations, joinWindow := .running 2000 0 })
  s.withLanes { Lanes.empty with repair := [⟨.request [peer], 0, 0⟩, ⟨.request [peer, station 5], 0, 0⟩] }

/-- ISOLATED, receiving, with the peer's repair FAILED, the cause taken and a point 16 that its loss clears by local delivery. -/
def isolatedFailing : State :=
  let s := (withPeer isolated).withLink { LinkController.atReset with gapSensed := true }
  ((s.setRepair peer ⟨.failed, 3, .stopped⟩).withTable tableOfPeer).withEngine { s.engine with healthLevel := true }

theorem witness_SilenceExpiryMarksLost :
    ((withPeer running).active = true ∧ (withPeer running).me ≠ some peer ∧
      ((withPeer running).member peer).state = .present ∧ ((withPeer running).member peer).silence.isRunning = true) ∧
    (let s := awaiting [peer]
     s.active = true ∧ s.me ≠ some peer ∧ (s.member peer).state = .present ∧ (s.member peer).silence.isRunning = true ∧
       s.onAir .repair = false ∧ s.control.station = .joining ∧ peer ∈ s.roster.awaited ∧
       ∀ m ∈ s.roster.awaited, m = peer) ∧
    (peer ∈ (awaiting [peer, station 5]).roster.awaited ∧ ¬∀ m ∈ (awaiting [peer, station 5]).roster.awaited, m = peer) ∧
    (let s := withPeer (running.withTable tableOfPeer)
     s.active = true ∧ s.me ≠ some peer ∧ (s.member peer).state = .present ∧ (s.member peer).silence.isRunning = true ∧
       s.marks = true ∧ s.table.slots[(1 : GroupNo)] = some ⟨peer, 2⟩ ∧ s.apartFromHealth ⟨peer, 2⟩ = true ∧
       staleAs true peer s.table.entries = [{ entryOf peer .alert with stale := true }]) ∧
    (isolatedFailing.active = true ∧ isolatedFailing.me ≠ some peer ∧ (isolatedFailing.member peer).state = .present ∧
      (isolatedFailing.member peer).silence.isRunning = true ∧ isolatedFailing.marks = false ∧
      isolatedFailing.anyCause = isolatedFailing.engine.healthLevel) := by
  decide +kernel

theorem witness_RepairExpiryRequestsOrFails :
    (∀ n ∈ [1, 2, 3],
      let s := running.setRepair peer ⟨.requested, n, .running 500 0⟩
      s.active = true ∧ (s.repairOf peer).state = .requested ∧ (s.repairOf peer).timer.isRunning = true ∧
        (s.repairOf peer).attempts = n) ∧ running.control.station = .running ∧ laneLaw running.link.lanes :=
  ⟨by decide +kernel, rfl, by unfold laneLaw; decide +kernel⟩

/-! ### Witnesses: lamps -/

/-- RUNNING with output 15 showing HORN, its read-back as given. -/
def lamp (r : ReadBack) : State :=
  running.withAnn
    { Annunciation.atReset with
      outputs := Annunciation.atReset.outputs.set 15 ⟨.horn, false⟩, readback := Annunciation.atReset.readback.set 15 r }

theorem witness_CadenceTickAdvancesThePhase :
    running.control.inReset = false ∧ running.active = true ∧ (stationIn .setupWait).control.inReset = false ∧
      (stationIn .setupWait).active = false := by decide +kernel

theorem witness_SenseChangeMovesTheMismatchTimer :
    ((lamp .atReset).compared 15 = true ∧ ((lamp .atReset).readbackOf 15).fault = none) ∧
    (∀ level ∈ [true, false], ∀ a ∈ [AgreementTimer.stopped, .running 0, .paused 200],
      let s := lamp ⟨some level, .stopped, a⟩
      s.compared 15 = true ∧ (s.readbackOf 15).fault = some level ∧ s.pins.sense[(15 : LineNo)] ≠ true ∧
        s.drivenActive 15 ≠ (true != (s.ann.outputs[(15 : LineNo)]).activeLow) ∧ (s.readbackOf 15).agreement = a) ∧
    (∀ level ∈ [true, false], ∀ a ∈ [AgreementTimer.stopped, .following 200],
      let s := setSensePin 15 true (lamp ⟨some level, .stopped, a⟩)
      s.compared 15 = true ∧ (s.readbackOf 15).fault = some level ∧ s.pins.sense[(15 : LineNo)] ≠ false ∧
        s.drivenActive 15 = (false != (s.ann.outputs[(15 : LineNo)]).activeLow) ∧ (s.readbackOf 15).agreement = a) := by
  decide +kernel

theorem witness_ReadBackFaultsAndClears :
    (let s := lamp ⟨none, .running 200 199, .stopped⟩
     s.compared 15 = true ∧ (s.readbackOf 15).fault = none ∧ (s.readbackOf 15).mismatch.isRunning = true) ∧
    (let s := lamp ⟨some false, .stopped, .running 199⟩
     s.active = true ∧ (s.readbackOf 15).fault ≠ none ∧ (s.readbackOf 15).agreement.isRunning = true) ∧
    (∀ high ∈ [true, false], ∀ fault ∈ [none, some true, some false],
      let s := setSensePin 15 high (lamp ⟨fault, .stopped, .stopped⟩)
      s.compared 15 = true ∧ (s.readbackOf 15).fault = fault ∧
        ((after .cadenceTick s).drivenActive 15 == s.sensedActive 15) = !high) ∧
    (∀ held ∈ [true, false],
      let s := handOn .test (!held) (!held) (lamp .atReset)
      s.active = true ∧ s.anyCause = s.engine.healthLevel ∧ (s.button .test).timer.isRunning = true ∧
        s.sensedButton .test = held ∧ s.sensedButton .test ≠ (s.button .test).pressed ∧ (s.readbackOf 15).fault = none ∧
        (s.readbackOf 0).fault = none ∧ (s.ann.outputs[(0 : LineNo)]).source = .none) :=
  ⟨by decide +kernel, by decide +kernel, by decide +kernel, by decide +kernel⟩

/-- RUNNING with output 15 showing a source. -/
def showing (src : Source) : State :=
  running.withAnn { Annunciation.atReset with outputs := Annunciation.atReset.outputs.set 15 ⟨src, true⟩ }

theorem witness_OutputsShowTheirPatterns :
    (running.active = true ∧ running.ann.test = false ∧ (entryOf peer .alert).state = .alert ∧
      (entryOf peer .ringback).group = 1) ∧
    (stationIn .setupWait).active = false ∧
    (setTest true (showing .none)).active = true ∧ (setTest true (showing .none)).ann.test = true ∧
    (∀ src ∈ [Source.none, .condition peer 2, .group 7, .horn, .stationLost, .linkFault, .overflow, .health],
      (showing src).active = true ∧ (showing src).ann.test = false ∧ (showing src).ann.outputs[(15 : LineNo)].source = src) ∧
    (holding [entryOf peer .alert] (showing (.condition peer 2))).table.find ⟨peer, 2⟩ = some (entryOf peer .alert) ∧
    (showing (.condition peer 2)).table.find ⟨peer, 2⟩ = none := by decide +kernel

/-! ### Witnesses: the link -/

theorem witness_GapAndCorruptFramesAtTheReceiver :
    running.active = true ∧ running.receives = true ∧ judge [] = none ∧ judge [⟨0x44#8, true⟩] = none := by decide +kernel

theorem witness_OffersFollowStateAndClass :
    (running.withLanes (oneMark 0)).offer = some .report ∧
      (running.withLanes { Lanes.empty with operator := [operatorFor peer .ack false] }).offer = some .operator ∧
      (running.withLanes { Lanes.empty with repair := [freshRepair (.dump false)] }).offer = some .repair ∧
      (running.withLanes (oneRoll .presence 0)).offer = some .roll ∧ running.offer = none ∧
      (running.active = true ∧ running.link.gapSensed = true ∧ running.link.sending = none ∧
        running.control.station = .running) ∧
      (let s := (stationIn .joining).withLink { LinkController.atReset with gapSensed := true, lanesOpen := true }
       s.active = true ∧ s.link.gapSensed = true ∧ s.link.sending = none ∧ s.control.station = .joining ∧
         s.link.lanesOpen = true) ∧
      (let s := ((stationIn .joining).withLink { LinkController.atReset with gapSensed := true }).withLanes
        { oneMark 0 with roll := some (freshRoll .join) }
       s.offer = some .roll ∧ s.active = true ∧ s.link.gapSensed = true ∧ s.link.sending = none ∧
         s.control.station = .joining ∧ s.link.lanesOpen = false ∧ s.link.lanes.roll = some (freshRoll .join)) := by
  decide +kernel

theorem witness_AttemptBuildsTheFrame :
    (running.withLanes (oneMark 3)).me = some own ∧ (running.withLanes (oneMark 3)).offer = some .report ∧
      (running.withLanes (oneMark 3)).headPayload .report =
        some (.report ((running.withLanes (oneMark 3)).contents 2)) ∧
      (oneMark 3).report = ⟨2, false, 4, 3⟩ :: [] ∧ (oneRoll .join 7).roll = some ⟨.join, 8, 7⟩ := by decide +kernel

theorem witness_FrameContentsFromThePointTable :
    (let s := (stationIn .joining).withControl
        { (stationIn .joining).control with joinCause := some .isolation, loaded := some testImage }
     ∀ k ∈ [RollKind.join, .presence, .leave],
       (s.withLanes (oneRoll k 0)).link.lanes.roll = some ⟨k, 1, 0⟩ ∧ s.control.joinCause = some .isolation ∧
         s.control.loaded = some testImage) ∧
    (running.withLanes (oneMark 0)).link.lanes.report = ⟨2, false, 1, 0⟩ :: [] ∧
    (running.withLanes { Lanes.empty with operator := [operatorFor peer .ack false] }).link.lanes.operator =
      operatorFor peer .ack false :: [] ∧
    ∀ w ∈ [RepairWork.dump true, .request [peer]],
      (running.withLanes { Lanes.empty with repair := [freshRepair w] }).link.lanes.repair = freshRepair w :: [] := by
  decide +kernel

/-- A REPORT of point 2 on the medium, its head having failed `failed` times and the count standing at `run`. -/
def reporting (failed run : Nat) : State :=
  let s := sending .report (.report (report .alert 1#8)) (oneMark failed) running
  s.withLink { s.link with undeliveredRun := run }

/-- The same state with LINK_DEGRADED set, and the engine in step with it. -/
def degraded (s : State) : State :=
  (s.withLink { s.link with degraded := true }).withEngine { s.engine with healthLevel := true }

/-- A LEAVE of DEPARTING on the medium at its eighth attempt. -/
def leaving : State :=
  sending .roll (.leave .supplyLow) (oneRoll .leave 7)
    (lowSupply ((stationIn .departing).withLink { LinkController.atReset with gapSensed := true }))

theorem witness_LostArbitrationKeepsTheHead :
    (reporting 0 0).active = true ∧ (reporting 0 0).link.sending = some ⟨.report, ⟨own, .report (report .alert 1#8)⟩⟩ := by
  decide +kernel

/-- A PRESENCE on the medium, of a station in DEPARTING, with the LEAVE owed behind it. -/
def owing (failed : Nat) : State :=
  sending .roll (.presence ⟨0#8, .ms1000, 0, 0#16, 0⟩) { oneRoll .presence failed with leaveOwed := true }
    (lowSupply ((stationIn .departing).withLink { LinkController.atReset with gapSensed := true }))

theorem witness_FailedAttemptKeepsTheHead :
    ((reporting 6 0).active = true ∧ (reporting 6 0).anyCause = (reporting 6 0).engine.healthLevel ∧
      (reporting 6 0).link.sending = some ⟨.report, ⟨own, .report (report .alert 1#8)⟩⟩ ∧
      (reporting 6 0).link.lanes.leaveOwed = false ∧ headFailed .report (reporting 6 0).link.lanes + 1 < 8) ∧
    (∀ failed ∈ [0, 7],
      (owing failed).active = true ∧ (owing failed).anyCause = (owing failed).engine.healthLevel ∧
        (owing failed).link.sending = some ⟨.roll, ⟨own, .presence ⟨0#8, .ms1000, 0, 0#16, 0⟩⟩⟩ ∧
        (owing failed).link.lanes.leaveOwed = true) ∧
    (running.active = true ∧ running.anyCause = running.engine.healthLevel ∧ running.link.sending = none) := by
  decide +kernel

theorem witness_EighthFailureIsUndelivered :
    ((reporting 7 14).active = true ∧ (reporting 7 14).link.lanes.leaveOwed = false ∧
      (reporting 7 14).link.sending = some ⟨.report, ⟨own, .report (report .alert 1#8)⟩⟩ ∧
      7 ≤ headFailed .report (reporting 7 14).link.lanes ∧ (reporting 7 14).link.undeliveredRun < 15 ∧
      (reporting 7 14).leaveEnds .report = false) ∧
    (degraded (reporting 7 14)).anyCause = (degraded (reporting 7 14)).engine.healthLevel ∧
      (degraded (reporting 7 14)).link.degraded = true ∧
    (oneMark 7).report = ⟨2, false, 8, 7⟩ :: [] ∧
    (leaving.active = true ∧ leaving.link.lanes.leaveOwed = false ∧
      leaving.link.sending = some ⟨.roll, ⟨own, .leave .supplyLow⟩⟩ ∧ 7 ≤ headFailed .roll leaving.link.lanes ∧
      leaving.link.undeliveredRun < 15 ∧ leaving.leaveEnds .roll = true ∧ leaving.control.supply = .low) := by decide +kernel

/-- Points 3 and 1 in ALERT, marked in that order behind the head that is about to be abandoned, and an OPERATOR entry. -/
def burdened : State :=
  let s := ((degraded (reporting 7 15)).setPoint 3 (pointIn .alert)).setPoint 1 (pointIn .alert)
  s.withLanes
    { s.link.lanes with
      report := s.link.lanes.report ++ [freshMark 3, freshMark 1], operator := [operatorFor peer .ack false] }

theorem witness_SixteenthUndeliveredIsolates :
    (∀ s ∈ [reporting 7 15, lowSupply (reporting 7 15), burdened],
      s.active = true ∧ s.me = some own ∧ s.link.sending = some ⟨.report, ⟨own, .report (report .alert 1#8)⟩⟩ ∧
        s.link.lanes.leaveOwed = false ∧ 7 ≤ headFailed .report s.link.lanes ∧ 15 ≤ s.link.undeliveredRun) ∧
    (burdened.link.degraded = true ∧ burdened.anyCause = burdened.engine.healthLevel ∧
      (dropUndelivered .report (failHead .report burdened.link.lanes)).report = [freshMark 3, freshMark 1] ∧
      entryState? (burdened.point 3).state = some .alert ∧ entryState? (burdened.point 2).state = none) := by decide +kernel

/-! ### Witnesses: deliveries -/

theorem witness_OwnDeliveryIsCounted :
    ((reporting 0 3).active = true ∧ (reporting 0 3).link.sending = some ⟨.report, ⟨own, .report (report .alert 1#8)⟩⟩ ∧
      (Payload.report (report .alert 1#8)).isJoin = false ∧ (reporting 0 3).anyCause = (reporting 0 3).engine.healthLevel ∧
      (reporting 0 3).table.overflow = (reporting 0 3).table.tableOverflow ∧ (reporting 0 3).table.overflow = false ∧
      (reporting 0 3).me = some own ∧ (reporting 0 3).link.degraded = false ∧ (reporting 0 3).marks = true) ∧
    (degraded (reporting 1 3)).anyCause = (degraded (reporting 1 3)).engine.healthLevel ∧
      headAttempt .report (degraded (reporting 1 3)).link.lanes ≠ 1 ∧
    (entryState? (report .alert 1#8).state = some .alert ∧ (reporting 0 3).table.find ⟨own, 2⟩ = none ∧
      (reporting 0 3).control.station = .running ∧ (report .alert 1#8).foEligible = true ∧
      (reporting 0 3).table.slots[(1 : GroupNo)] = none) ∧
    (∀ p ∈ [Payload.dump ⟨0#8, []⟩, .presence ⟨0#8, .ms1000, 0, 0#16, 0⟩, .join ⟨0#8, .powerOn, .ms1000⟩],
      let s := sending .roll p (oneRoll .presence 0) running
      s.active = true ∧ s.link.sending = some ⟨.roll, ⟨own, p⟩⟩ ∧ s.marks = true ∧ s.me = some own) := by decide +kernel

/-- RUNNING with a stale entry of the peer, which the Roster holds as given. -/
def staleFrom (m : Machine.Membership) : State :=
  (holding [{ entryOf peer .alert with stale := true }, entryOf own .acked] running).setMember peer
    { presentEntry with state := m, silence := .stopped }

theorem witness_DeliveredFrameProvesItsSourceAlive :
    (running.receives = true ∧ running.me ≠ some peer ∧ (running.member peer).state ≠ .self) ∧
    (∀ c, Payload.report (report .alert 1#8) ≠ .leave c) ∧
    (∀ m ∈ [Machine.Membership.absent, .lost, .left],
      (staleFrom m).receives = true ∧ (staleFrom m).me ≠ some peer ∧ ((staleFrom m).member peer).state = m ∧
        (staleFrom m).heardEntries peer = [entryOf peer .alert, entryOf own .acked] ∧
        (after (.reportDelivered peer (report .alert 1#8)) (staleFrom m)).table.entries =
          [entryOf peer .alert, entryOf own .acked]) ∧
    ((staleFrom .present).heardEntries peer = (staleFrom .present).table.entries ∧
      ((staleFrom .present).member peer).restartCount = some 0#8) ∧
    ((staleFrom .lost).marks = true ∧ isolated.marks = false ∧ isolated.me = some own ∧ own ≠ station 30) :=
  ⟨by decide +kernel, fun _ h => Payload.noConfusion h, by decide +kernel, by decide +kernel, by decide +kernel⟩

/-- A table with 111 remote entries. -/
def fullTable : List Entry :=
  ((List.range 112).filter (fun i => i != 2)).map (fun i =>
    { owner := StationNo.ofIndex (Fin.ofNat 7 (i / 17) |>.castLE (by decide)), point := Fin.ofNat 17 i, group := 0,
      state := .alert, revision := 1#8, foEligible := false, audible := false, stale := false })

theorem witness_ReportChangesItsEntry :
    (running.receives = true ∧ running.me ≠ some peer) ∧
    ((holding [entryOf peer .alert] running).table.find ⟨peer, 2⟩ = some (entryOf peer .alert) ∧
      (holding [entryOf peer .alert] running).receives = true) ∧
    (running.table.find ⟨peer, 2⟩ = none ∧ occupancy running.me running.table.entries < 111 ∧
      running.control.station = .running ∧ running.table.slots[(1 : GroupNo)] = none) ∧
    (let s := listening.withLink { LinkController.atReset with gapSensed := true }
     s.receives = true ∧ s.me ≠ some peer ∧ s.table.find ⟨peer, 2⟩ = none ∧ s.control.station ≠ .running ∧
       s.anyCause = s.engine.healthLevel) ∧
    (tableOfPeer.slots[(1 : GroupNo)] = some ⟨peer, 2⟩ ∧
      (after (.reportDelivered (station 5) (report .alert 1#8)) (running.withTable tableOfPeer)).table.slots[(1 : GroupNo)] =
        some ⟨peer, 2⟩) ∧
    ((holding fullTable running).receives = true ∧ (holding fullTable running).table.find ⟨station 30, 2⟩ = none ∧
      111 ≤ occupancy (holding fullTable running).me (holding fullTable running).table.entries ∧
      (holding fullTable running).table.overflow = false) ∧
    (running.anyCause = running.engine.healthLevel ∧ running.table.find ⟨peer, 2⟩ = none ∧ (report .normal 2#8).state = .normal) ∧
    (let s := running.withTable tableOfPeer
     s.table.find ⟨peer, 2⟩ = some (entryOf peer .alert) ∧ (report .alert 1#8).revision = (entryOf peer .alert).revision ∧
       (report .acked 2#8).revision ≠ (entryOf peer .alert).revision ∧
       (after (.reportDelivered peer { report .acked 2#8 with group := 7 }) s).table.slots[(1 : GroupNo)] = none) := by
  decide +kernel

/-- A table of `n` remote entries, the peer's point 2 among them, with OVERFLOW set. -/
def overflowing (n : Nat) : State :=
  running.withTable { AlarmTable.atReset with entries := fullTable.take n, overflow := true, tableOverflow := true }

/-- R55: the removal that leaves 83 remote entries clears OVERFLOW, and one that leaves 84 does not. -/
theorem test_removal_clears_overflow_at_83 :
    (after (.reportDelivered peer (report .normal 2#8)) (overflowing 84)).table.overflow = false ∧
      (after (.reportDelivered peer (report .normal 2#8)) (overflowing 85)).table.overflow = true := by decide +kernel

theorem witness_HornLatchFollowsTableChanges :
    let s := running.withAnn { Annunciation.atReset with scope := 2#8 }
    let t := takeChange (applyContents s.me true peer (report .alert 1#8)) s
    (t.table.find ⟨peer, 2⟩ = some (entryOf peer .alert) ∧ callsHorn s.ann.scope (entryOf peer .alert) = true ∧
      s.table.find ⟨peer, 2⟩ = none ∧ t.ann.horn = true) ∧
    (takeChange (applyContents t.me true peer (report .normal 2#8)) t).table.entries = [] ∧
    (takeChange (applyContents t.me true peer (report .normal 2#8)) t).ann.horn = false ∧
    (let silenced := t.withAnn { t.ann with horn := false }
     silenced.ann.horn = false ∧
       (takeChange (applyContents t.me true peer (report .alert 1#8)) silenced).table.find ⟨peer, 2⟩ =
         some (entryOf peer .alert) ∧
       silenced.table.find ⟨peer, 2⟩ = some (entryOf peer .alert)) := by decide +kernel

theorem witness_OperatorItemsTakenByTheTarget :
    running.receives = true ∧ running.me ≠ some peer ∧ running.me = some own ∧ running.me ≠ some (station 30) ∧
      running.anyCause = running.engine.healthLevel ∧ running.table.overflow = running.table.tableOverflow ∧
      running.table.overflow = false := by decide +kernel

theorem witness_ResyncRequestMarksAndWithdraws :
    (running.receives = true ∧ running.me ≠ some peer ∧ running.me = some own ∧ own ∈ [own] ∧ own ∉ [station 5] ∧
      running.control.station.silent = false) ∧
    (running.lanesTake = true ∧ running.link.lanes.repair.any RepairEntry.isDump = false) ∧
    (let l := { Lanes.empty with repair := [⟨.dump false, 1, 0⟩] }
     let s := sending .repair (.dump ⟨0#8, []⟩) l running
     s.lanesTake = true ∧ s.link.sending = some ⟨.repair, ⟨own, .dump ⟨0#8, []⟩⟩⟩ ∧
       s.link.lanes.repair = ⟨.dump false, 1, 0⟩ :: [] ∧ RepairEntry.isDump ⟨.dump false, 1, 0⟩ = true ∧
       (running.withLanes l).link.lanes.repair.any RepairEntry.isDump = true ∧ (running.withLanes l).link.sending = none) ∧
    ((isolated.withLink { LinkController.atReset with gapSensed := true }).receives = true ∧
      isolated.control.station.silent = true ∧ isolated.lanesTake = false) ∧
    (peer ∉ [station 5] ∧ (peer ∈ [peer] ∧ ∀ x ∈ [peer], x = peer) ∧
      (peer ∈ [peer, station 48] ∧ ∃ x ∈ [peer, station 48], x ≠ peer)) := by decide +kernel

theorem witness_DumpEndsRepairAndAwaiting :
    (running.receives = true ∧ running.me ≠ some peer ∧ peer ∉ running.roster.awaited ∧ running.marks = true) ∧
    (running.me ≠ some (entryOf peer .alert).owner ∧ (entryOf own .alert).point ≠ 16) ∧
    (let s := (joining.withRoster { joining.roster with awaited := [peer] }).withLink
        { LinkController.atReset with gapSensed := true }
     s.receives = true ∧ s.me ≠ some peer ∧ s.control.station = .joining ∧ s.roster.awaited = [peer]) ∧
    (∀ stations ∈ [[peer], [peer, station 5]],
      (awaiting stations).receives = true ∧ (awaiting stations).me ≠ some peer ∧ peer ∈ (awaiting stations).roster.awaited ∧
        (awaiting stations).onAir .repair = false) := by decide +kernel

/-- A DUMP of point 2 with its fo flag as given. -/
def dumpOf (fo : Bool) : DumpBody := ⟨0#8, [⟨2, .acked, 2#8, 1, true, true, fo⟩]⟩

/-- A table without a shared place. -/
def packedTable : AlarmTable := { AlarmTable.atReset with entries := fullTable }

theorem witness_DumpReplacesItsSource :
    (tableLaw (some own) tableOfPeer ∧ slotLaw tableOfPeer ∧ (dumpOf true).wellFormed = true ∧
      occupancy (some own) tableOfPeer.entries + 1 ≤ 111) ∧
    (let u := (applyDump (some own) peer (dumpOf true).records ⟨tableOfPeer, []⟩).table
     tableOfPeer.find ⟨peer, 2⟩ = some (entryOf peer .alert) ∧ (entryOf peer .alert).state ≠ .acked ∧
       u.find ⟨peer, 2⟩ = some ⟨peer, 2, 1, .acked, 2#8, true, true, false⟩ ∧ u.slots[(1 : GroupNo)] = some ⟨peer, 2⟩) ∧
    (let r : DumpRecord := ⟨2, .alert, 1#8, 7, false, false, true⟩
     let u := (applyDump (some own) peer [r] ⟨tableOfPeer, []⟩).table
     tableOfPeer.find ⟨peer, 2⟩ = some (entryOf peer .alert) ∧ (entryOf peer .alert).state = r.state ∧
       (entryOf peer .alert).revision = r.revision ∧ tableOfPeer.slots[(1 : GroupNo)] = some ⟨peer, 2⟩ ∧
       u.find ⟨peer, 2⟩ = some ⟨peer, 2, 7, .alert, 1#8, false, false, false⟩ ∧ u.slots[(1 : GroupNo)] = none ∧
       u.slots[(7 : GroupNo)] = some ⟨peer, 2⟩) ∧
    (let u := (applyDump (some own) (station 5) (dumpOf false).records ⟨tableOfPeer, []⟩).table
     tableOfPeer.find ⟨station 5, 2⟩ = none ∧ (u.find ⟨station 5, 2⟩).isSome = true ∧
       u.slots[(1 : GroupNo)] = some ⟨peer, 2⟩) ∧
    (tableLaw (some own) packedTable ∧ slotLaw packedTable ∧ (dumpOf true).wellFormed = true ∧
      (applyDump (some own) (station 30) (dumpOf true).records ⟨packedTable, []⟩).table.find ⟨station 30, 2⟩ = none) := by
  refine ⟨⟨?_, ?_, by decide +kernel, by decide +kernel⟩, by decide +kernel, by decide +kernel, by decide +kernel, ?_, ?_,
    by decide +kernel, by decide +kernel⟩
  · unfold tableLaw; decide +kernel
  · unfold slotLaw; decide +kernel
  · unfold tableLaw; decide +kernel
  · unfold slotLaw; decide +kernel

theorem witness_JoinClearsAndRecordsItsSource :
    (running.receives = true ∧ running.me ≠ some peer ∧ running.control.station = .running) ∧
    (let s := joining.withLink { LinkController.atReset with gapSensed := true, lanesOpen := true }
     s.receives = true ∧ s.me ≠ some peer ∧ s.control.station = .joining ∧ s.link.lanesOpen = true) ∧
    (let s := listening.withLink { LinkController.atReset with gapSensed := true }
     s.receives = true ∧ s.me ≠ some peer ∧ s.control.station = .listening) ∧
    ((overflowing 84).receives = true ∧ ((overflowing 84).withoutOwner peer).entries ≠ (overflowing 84).table.entries ∧
      ((overflowing 84).withoutOwner (station 30)).overflow = true) := by decide +kernel

/-- JOINING with the own JOIN on the medium. -/
def ownJoining : State := sending .roll (.join ⟨0#8, .powerOn, .ms1000⟩) (oneRoll .join 0) (stationIn .joining)

theorem witness_OwnJoinOpensTheLanes :
    (ownJoining.active = true ∧ ownJoining.me = some own ∧ ownJoining.control.station = .joining ∧
      ownJoining.link.sending = some ⟨.roll, ⟨own, .join ⟨0#8, .powerOn, .ms1000⟩⟩⟩ ∧
      ownJoining.roster.entries.toList.all (fun e => e.state != .present) = true) ∧
    ((withPeer ownJoining).active = true ∧ (withPeer ownJoining).me = some own ∧
      (withPeer ownJoining).link.sending = some ⟨.roll, ⟨own, .join ⟨0#8, .powerOn, .ms1000⟩⟩⟩ ∧
      ((withPeer ownJoining).member peer).state = .present) ∧
    (let s := ownJoining.withTable { tableOfPeer with entries := [entryOf peer .alert, entryOf own .acked] }
     s.table.overflow = s.table.tableOverflow ∧ s.table.overflow = false ∧ (s.withoutOwner own).entries = [entryOf peer .alert] ∧
       (s.withoutOwner own).slots = s.table.slots) := by decide +kernel

/-- A PRESENCE from a station with nothing off NORMAL. -/
def presence (count : Byte) (n : Fin 18) : PresenceBody := ⟨count, .ms250, n, 0#16, 77⟩

theorem witness_PresenceIsCheckedAndCompared :
    let s := withPeer running
    (s.receives = true ∧ s.me ≠ some peer ∧ (s.member peer).state ≠ .self) ∧
    ((s.member peer).restartCount = some 0#8 ∧ 0#8 ≠ (presence 1#8 0).restartCount) ∧
    ((s.member peer).state = .present ∧ (s.member peer).restartCount = some (presence 0#8 0).restartCount ∧
      s.control.station = .running ∧ s.table.overflow = false ∧ (s.repairOf peer).state ≠ .requested ∧
      digestMatches s.table peer (presence 0#8 0) = true ∧ digestMatches s.table peer (presence 0#8 1) = false) ∧
    (let u := s.setRepair peer ⟨.requested, 1, .running 500 0⟩
     u.receives = true ∧ (u.repairOf peer).state = .requested ∧ digestMatches u.table peer (presence 0#8 1) = false) ∧
    (let u := s.withTable { s.table with overflow := true, tableOverflow := true }
     u.receives = true ∧ u.control.station = .running ∧ u.table.overflow = true ∧
       (u.member peer).restartCount = some (presence 0#8 1).restartCount) ∧
    (joined.receives = true ∧ joined.me ≠ some peer ∧ joined.control.station ≠ .running) := by decide +kernel

theorem witness_LeaveEndsMembership :
    (running.receives = true ∧ running.me ≠ some peer ∧ running.marks = true) ∧
    (isolatedFailing.receives = true ∧ isolatedFailing.me ≠ some peer ∧ isolatedFailing.marks = false ∧
      isolatedFailing.table.slots[(1 : GroupNo)] = some ⟨peer, 2⟩) ∧
    (∀ stations ∈ [[peer], [peer, station 5]],
      (awaiting stations).receives = true ∧ (awaiting stations).me ≠ some peer ∧ peer ∈ (awaiting stations).roster.awaited ∧
        (awaiting stations).onAir .repair = false) ∧
    (∀ supply ∈ [Supply.low, .normal],
      let s := leaving.withControl { leaving.control with supply := supply }
      s.active = true ∧ s.control.station = .departing ∧
        s.link.sending = some ⟨.roll, ⟨own, .leave .supplyLow⟩⟩ ∧ s.control.supply = supply) := by decide +kernel

theorem witness_DuplicateNumberHalts :
    (running.receives = true ∧ running.me = some own ∧ running.anyCause = running.engine.healthLevel ∧
      running.control.station.objects = true) ∧
    (let s := isolated.withLink { LinkController.atReset with gapSensed := true }
     s.receives = true ∧ s.me = some own ∧ s.anyCause = s.engine.healthLevel ∧ s.control.station.objects = false) := by
  decide +kernel

/-! ### Witnesses: the service port -/

/-- RUNNING with the port as given. -/
def portWith (p : ServicePort) : State := running.withService p

/-- A request one byte short of its end. -/
def almost : RxBuffer := ⟨1#8, 0#8, 0#8, [], 1#8, 3⟩

theorem witness_ServiceReceiverTakesBytes :
    (running.portLive = true ∧ running.service.response = none ∧ running.service.rx = none ∧
      running.service.answerOwed = false) ∧
    (State.reset.control.inReset = true ∧ State.reset.portLive = false) ∧
    ((stationIn .starting).control.inReset = false ∧ (stationIn .starting).control.station = .starting ∧
      (stationIn .starting).portLive = false) ∧
    (let s := portWith { ServicePort.atReset with response := some [1#8] }
     s.portLive = true ∧ s.service.response = some [1#8] ∧ s.service.answerOwed = false) ∧
    (let s := portWith { ServicePort.atReset with response := some [1#8], answerOwed := true }
     s.portLive = true ∧ s.service.response ≠ none ∧ s.service.answerOwed = true ∧ s.control.storeWrite = none ∧
       s.service.rx = none) ∧
    (∀ owed ∈ [true, false],
      let s := portWith { ServicePort.atReset with rx := some almost, gap := .running 100 0, answerOwed := owed }
      s.portLive = true ∧ s.service.rx ≠ none ∧ s.service.gap.isRunning = true ∧ s.service.answerOwed = owed ∧
        s.control.storeWrite = none ∧ s.service.response = none) ∧
    ((almost.add 0xFF#8).complete = true ∧ ((firstByte 1#8).add 0#8).complete = false) := by decide +kernel

theorem witness_RequestsAreAnswered :
    ((running.withTable tableOfPeer).table.entries[0]? = some (entryOf peer .alert)) ∧
    (running.portLive = true ∧ running.service.response = none ∧ running.service.rx = none) ∧
    ((stationIn .storing).portLive = true ∧ (stationIn .storing).service.response = none ∧
      (stationIn .storing).service.rx = none ∧ (stationIn .storing).control.station = .storing) ∧
    (∀ kind ∈ [1#8, 2#8, 3#8, 4#8, 5#8], ∀ payload ∈ [[], [1#8]],
      byteSum (requestBytes kind ⟨payload, requestCheck kind payload⟩) = 0#8 ∧
        RequestBody.wellFormed ⟨payload, requestCheck kind payload⟩ = true) ∧
    (RequestBody.wellFormed ⟨[], 0#8 - 7#8⟩ = true ∧ byteSum (requestBytes 7#8 ⟨[], 0#8 - 7#8⟩) = 0#8 ∧
      (7#8 = 0#8 ∨ 6 < (7#8 : Byte).toNat)) ∧
    byteSum (requestBytes 7#8 ⟨[], 0#8⟩) ≠ 0#8 := by decide +kernel

/-- A SETUP request that carries an image. -/
def setupBody (img : Image) : RequestBody := ⟨img.toList, requestCheck 6#8 img.toList⟩

theorem witness_SetupIsJudgedInOrder :
    (∀ s ∈ [running, portWith .atReset, stationIn .setupWait, stationIn .storing,
        running.withControl { running.control with setupAccepted := true }],
      s.portLive = true ∧ s.service.response = none ∧ s.service.rx = none) ∧
    (stationIn .storing).control.station = .storing ∧
    (RequestBody.wellFormed ⟨[], 0#8⟩ = true ∧ byteSum (requestBytes 6#8 ⟨[], 0#8⟩) ≠ 0#8) ∧
    (RequestBody.wellFormed ⟨[], 0#8 - 6#8⟩ = true ∧ byteSum (requestBytes 6#8 ⟨[], 0#8 - 6#8⟩) = 0#8) ∧
    (RequestBody.wellFormed (setupBody testImage) = true ∧ byteSum (requestBytes 6#8 (setupBody testImage)) = 0#8) ∧
    (RequestBody.wellFormed (setupBody spoiledImage) = true ∧ byteSum (requestBytes 6#8 (setupBody spoiledImage)) = 0#8) ∧
    imageRefusal? spoiledImage = some (.badCheck, 0#8) ∧ imageValid testImage = true :=
  ⟨by decide +kernel, rfl, by decide +kernel, by decide +kernel, by decide +kernel, by decide +kernel, test_image_bad_check,
    test_image_valid⟩

/-! An image for each test of R172 that refuses: its fault, with free bytes that leave the check value of `testImage`. -/

/-- The image of 94 bytes given in four parts. -/
def imageFrom (head middle outputs tail : List Byte) : Image :=
  (imageOf? (head ++ middle ++ outputs ++ tail ++ [0x26#8, 0xEC#8])).getD testImage

/-- Bytes 0 to 21 with a format, rate, interval, loss window, scope and health group, and the point records 2 and 3. -/
def headWith (first : List Byte) (records : List Byte) : List Byte :=
  first ++ List.replicate 7 0x0F#8 ++ [0#8, 1#8, 0#8, 1#8, 0#8] ++ records

theorem check_of_parts (head middle outputs tail : List Byte) (h : head.foldl crcByte 0xFFFF#16 = 59908#16)
    (hm : middle.foldl crcByte 59908#16 = 61731#16) (ho : outputs.foldl crcByte 61731#16 = 39996#16)
    (ht : tail.foldl crcByte 39996#16 = 0x26EC#16) : crc16 (head ++ middle ++ outputs ++ tail) = 0x26EC#16 := by
  unfold crc16
  rw [List.foldl_append, List.foldl_append, List.foldl_append, h, hm, ho, ht]

/-- The five heads: format 2, rate 3, interval 4, loss window 2, health group 8. -/
def faultyHeads : List (List Byte) :=
  [headWith [2#8, 1#8, 2#8, 0#8, 61#8, 7#8] [22#8, 2#8, 13#8, 0#8],
    headWith [1#8, 3#8, 2#8, 0#8, 209#8, 7#8] [0#8, 2#8, 5#8, 5#8],
    headWith [1#8, 1#8, 4#8, 0#8, 169#8, 7#8] [12#8, 3#8, 4#8, 1#8],
    headWith [1#8, 1#8, 2#8, 2#8, 88#8, 7#8] [31#8, 0#8, 10#8, 1#8],
    headWith [1#8, 1#8, 2#8, 0#8, 195#8, 8#8] [8#8, 2#8, 28#8, 2#8]]

theorem faulty_heads_check : ∀ h ∈ faultyHeads, h.foldl crcByte 0xFFFF#16 = 59908#16 := by decide +kernel

/-- Bytes 22 to 45 with point 15 enabled and momentary in group 7, which lacks lock-in. -/
def lacksLockinMiddle : List Byte := List.replicate 17 0#8 ++ [6#8, 20#8, 3#8, 0#8, 4#8, 5#8, 7#8]

theorem lacks_lockin_check : lacksLockinMiddle.foldl crcByte 59908#16 = 61731#16 := by decide +kernel

/-- Bytes 64 to 93 with output 15 of source kind 8. -/
def faultyTail : List Byte :=
  [1#8, 34#8, 12#8, 129#8, 16#8, 12#8, 1#8, 19#8, 2#8] ++ List.replicate 18 0#8 ++ [8#8, 0#8, 0#8]

theorem faulty_tail_check : faultyTail.foldl crcByte 39996#16 = 0x26EC#16 := by decide +kernel

/-- Each head's image passes the tests before its fault and carries the right check value. -/
theorem witness_SetupIsJudgedInOrder_heads :
    ∀ h ∈ faultyHeads,
      let img := imageFrom h (List.replicate 24 0#8) imageOutputs (List.replicate 30 0#8)
      img.toList.take 94 = h ++ List.replicate 24 0#8 ++ imageOutputs ++ List.replicate 30 0#8 ∧ imageCheck img = 0x26EC#16 ∧
        crc16 (h ++ List.replicate 24 0#8 ++ imageOutputs ++ List.replicate 30 0#8) = 0x26EC#16 ∧
        [img[0], img[1], img[2], img[3], img[5]] = [h.getD 0 0#8, h.getD 1 0#8, h.getD 2 0#8, h.getD 3 0#8, h.getD 5 0#8] := by
  intro h hh
  refine ⟨?_, ?_, check_of_parts _ _ _ _ (faulty_heads_check h hh) crc_middle crc_outputs crc_tail, ?_⟩ <;> revert h <;>
    decide +kernel

/-- R172 step 8: output 15 is the lowest faulty one. Step 9: point 15 is the lowest that lacks lock-in. -/
theorem witness_SetupIsJudgedInOrder_records :
    imageRefusal? (imageFrom imageHead (List.replicate 24 0#8) imageOutputs faultyTail) = some (.badOutput, 15#8) ∧
      imageRefusal? (imageFrom imageHead lacksLockinMiddle imageOutputs (List.replicate 30 0#8)) =
        some (.momentaryNeedsLockin, 15#8) := by
  have h1 : (imageFrom imageHead (List.replicate 24 0#8) imageOutputs faultyTail).toList.take 94 =
      imageHead ++ List.replicate 24 0#8 ++ imageOutputs ++ faultyTail := by decide +kernel
  have h2 : (imageFrom imageHead lacksLockinMiddle imageOutputs (List.replicate 30 0#8)).toList.take 94 =
      imageHead ++ lacksLockinMiddle ++ imageOutputs ++ List.replicate 30 0#8 := by decide +kernel
  constructor <;> unfold imageRefusal?
  · rw [h1, check_of_parts _ _ _ _ crc_head crc_middle crc_outputs faulty_tail_check]; decide +kernel
  · rw [h2, check_of_parts _ _ _ _ crc_head lacks_lockin_check crc_outputs crc_tail]; decide +kernel

/-! ### Witnesses: the laws -/

/-- A property of every station, checked at each of the 48 places. -/
theorem every_station (P : StationNo → Prop) (h : ∀ i : Fin 48, P (StationNo.ofIndex i)) (n : StationNo) : P n :=
  ofIndex_index n ▸ h n.index

/-- RUNNING with its own roster entry SELF, an entry of the peer and its own point in ALERT, and a tick to come. -/
def lawful : State :=
  let s := (holding [entryOf peer .alert] running).withRoster
    { Roster.atReset with entries := withSelf (some own) 0#8 Roster.atReset.entries }
  s.withPending [.cadenceTick]

theorem lawful_tableLaw : tableLaw lawful.me lawful.table := by unfold tableLaw; decide +kernel

theorem witness_EveryStepKeepsTableLaws : lawful.healthInv ∧ ∃ t, step lawful = .next t := by
  refine ⟨⟨⟨lawful_tableLaw, ?_, ?_, ?_, ?_⟩, ?_⟩, _, rfl⟩
  · unfold slotLaw; decide +kernel
  · unfold overflowLaw; decide +kernel
  · unfold hornLaw; decide +kernel
  · unfold quietTable; decide +kernel
  · decide +kernel

theorem witness_EveryStepKeepsLinkLaws : lawful.linkInv ∧ ∃ t, step lawful = .next t := by
  refine ⟨⟨?_, ?_, ?_, ?_⟩, _, rfl⟩
  · unfold laneLaw; decide +kernel
  · unfold runLaw; decide +kernel
  · intro a h; exact absurd (show (none : Option Attempt) = some a from h) (by simp)
  · unfold quietLink; decide +kernel

theorem witness_EveryStepKeepsSentFramesGood : lawful.frameInv ∧ ∃ t, step lawful = .next t := by
  refine ⟨⟨lawful_tableLaw, ?_, ?_, ?_, ?_⟩, _, rfl⟩
  · intro e h; cases h
  · intro e h; cases h
  · exact every_station _ (by decide +kernel)
  · intro a h; exact absurd (show (none : Option Attempt) = some a from h) (by simp)

theorem witness_EveryStepKeepsSelfEntry : lawful.selfInv ∧ ∃ t, step lawful = .next t :=
  ⟨fun _ => every_station _ (by decide +kernel), _, rfl⟩

theorem witness_EveryStepKeepsSequenceLaw : lawful.sequenceInv ∧ ∃ t, step lawful = .next t := by
  refine ⟨⟨?_, ?_, ?_, ?_, ?_, ?_, ?_, ?_⟩, _, rfl⟩
  · unfold sequenceLaw; decide +kernel
  · unfold disabledLaw; decide +kernel
  · unfold levelLaw; decide +kernel
  · unfold configLaw; decide +kernel
  · unfold momentaryLaw; decide +kernel
  · unfold healthLaw; decide +kernel
  · intro img h; exact absurd (show (none : Option Image) = some img from h) (by simp)
  · unfold quietEngine; decide +kernel

theorem witness_StoreChangesOnlyByTheWrite :
    ∃ t, exec .storeWriteComplete storing = .next t ∧ storing.control.storeStatus = .corrupt := ⟨_, rfl, rfl⟩

theorem witness_GoodFrameReadsBack :
    (judge (onMedium ⟨station 18, .leave .supplyLow⟩) = some ⟨station 18, .leave .supplyLow⟩) ∧
    (∀ p ∈ [Payload.report (report .normal 255#8), .operator ⟨peer, .ack, [⟨16, 0#8⟩]⟩, .resyncRequest [peer], .dump ⟨0#8, []⟩,
        .join ⟨0#8, .supplyRecovered, .ms1000⟩, .presence ⟨0#8, .ms100, 17, 0xFFFF#16, 1999⟩, .leave .supplyLow],
      Frame.wellFormed ⟨own, p⟩ = true) := by decide +kernel

/-! ### One step each -/

/-- R14, R99: at the emptying the waiting marks are delivered in lane order, and the OPERATOR entry is counted. -/
theorem test_emptying_in_lane_order :
    (emptyLanes burdened).table.entries.map Entry.point = [3, 1] ∧ (emptyLanes burdened).ann.operatorDropped = 1#16 ∧
      (emptyLanes burdened).link.lanes = .empty := by decide +kernel

/-- R122, R132, R142: the loss of the last awaited station withdraws it and takes the station to RUNNING. -/
theorem test_loss_of_the_last_awaited :
    ∀ first ∈ [true, false],
      let lost := fun s => silenceExpiry ⟨.afterRevival, true, first⟩ peer s
      (lost (awaiting [peer])).control.station = .running ∧
        (lost (awaiting [peer])).link.lanes.repair = [⟨.request [station 5], 0, 0⟩] ∧
        (lost (awaiting [peer, station 5])).control.station = .joining := by decide +kernel

/-- R97, R179: a LEAVE behind a PRESENCE on the medium is owed. -/
theorem test_leave_owed :
    (after .supplyWarning (presenceOnAir running)).link.lanes = { oneRoll .presence 0 with leaveOwed := true } ∧
      (after .supplyWarning running).link.lanes = { Lanes.empty with roll := some ⟨.leave, 0, 0⟩ } := by decide +kernel

/-- R169: leaving a first power-up gives cause POWER_ON and count 0, and the straps' entry is SELF. -/
theorem test_leave_reset :
    (after (.leaveReset 20#6) State.reset).control.station = .setupWait ∧
      (after (.leaveReset 20#6) State.reset).control.resetCause = .powerOn ∧
      ((after (.leaveReset 20#6) State.reset).member own).state = .self := by decide +kernel

/-- R169: a reset pin counts one more restart as the part leaves reset. -/
theorem test_reset_pin :
    (after (.leaveReset 20#6) (after .resetPin running)).control.restartCount = 1#8 ∧
      (after (.leaveReset 20#6) (after .resetPin running)).control.resetCause = .resetPin := by decide +kernel

/-- R169: a supply that falls to the reset level and then below the power-on level is a POWER_ON. -/
theorem test_power_on_after_supply_low :
    (after (.leaveReset 20#6) (after .powerOn (after .supplyLow running))).control.resetCause = .powerOn ∧
      (after (.leaveReset 20#6) (after .supplyLow running)).control.resetCause = .supplyLow := by decide +kernel

/-- R174: a blank store ends the start in UNCONFIGURED. -/
theorem test_setup_window_expiry :
    (after .setupWindowExpiry (waiting .blank testImage)).control.station = .unconfigured ∧
      (after .setupWindowExpiry (waiting .blank testImage)).control.reason = .storeBlank := by decide +kernel

/-- R173, R187: the completed write loads the image, and the owed OK is sent. -/
theorem test_store_write_complete :
    (after .storeWriteComplete storing).control.station = .listening ∧
      (after .storeWriteComplete storing).service.response = some [6#8, 0#8, 0#8, 0#8, 0xFA#8] ∧
      (after .storeWriteComplete storing).roster.listenWindow = .running 3000 0 := by decide +kernel

/-- R179, R167: a warning in RUNNING places the LEAVE; a release in DEPARTED places the JOIN. -/
theorem test_supply :
    (after .supplyWarning running).control.station = .departing ∧
      (after .supplyWarning running).link.lanes.roll = some ⟨.leave, 0, 0⟩ ∧
      (after .supplyRelease (lowSupply (stationIn .departed))).control.joinCause = some .supplyRecovered := by decide +kernel

/-- R22, R6: a pin that goes high starts the 10 ms timer, and its expiry alerts the point. -/
theorem test_input :
    ((after (.inputLevelChange 3 true) running).input 3).timer = .running 10 0 ∧
      ((after (.qualificationTimerExpiry 3)
        (after (.inputLevelChange 3 true) (timed restingInput (pointIn .normal)))).point 3).state = .alert := by decide +kernel

/-- R60, R64: the ACK button acknowledges an own entry of the scope. -/
theorem test_ack_press :
    let s := (timed restingInput { pointIn .alert with revision := 1#8 }).withAnn { Annunciation.atReset with scope := 1#8 }
    let held := holding [⟨own, 3, 0, .alert, 1#8, true, true, false⟩] s
    let t := after (.buttonQualificationExpiry .ack) (after (.buttonLevelChange .ack false) held)
    (t.point 3).state = .acked ∧ (t.point 3).revision = 2#8 ∧ t.reportMark 3 = .pending := by decide +kernel

/-- R66, R67: an entry of the peer becomes an OPERATOR entry. -/
theorem test_restore_press :
    let s := holding [entryOf peer .ringback] (running.withAnn { Annunciation.atReset with scope := 2#8 })
    (after (.buttonQualificationExpiry .restore) (after (.buttonLevelChange .restore false) s)).link.lanes.operator =
      [⟨peer, .restore, [⟨2, 1#8⟩], false, 0, 0⟩] := by decide +kernel

/-- R130, R181: the windows and the hold. -/
theorem test_windows :
    (after .listenWindowExpiry listening).control.station = .joining ∧
      (after .joinWindowExpiry joining).control.station = .running ∧
      (after .isolationHoldExpiry isolated).control.joinCause = some .isolation := by decide +kernel

/-- R122, R135, R146: the timers of membership and repair. -/
theorem test_timers :
    (((silenceExpiry ⟨.beforeRevival, true, true⟩ peer (withPeer running)).member peer).state = .lost) ∧
      (after .presenceTimerExpiry (running.withRoster { Roster.atReset with presence := .running 500 500 })).link.lanes.roll =
        some ⟨.presence, 0, 0⟩ ∧
      (after (.repairTimerExpiry peer) (running.setRepair peer ⟨.requested, 3, .running 500 500⟩)).repairFailed = true := by
  decide +kernel

/-- R152, R162, R163: the tick, a mismatch and its fault, and the end of a fault. -/
theorem test_lamps :
    (after .cadenceTick (running.withAnn { Annunciation.atReset with phase := 1999 })).ann.phase = 0 ∧
      ((after (.outputSenseChange 15 true) (lamp .atReset)).readbackOf 15).mismatch = .running 200 0 ∧
      (after (.mismatchTimerExpiry 15) (lamp ⟨none, .running 200 200, .stopped⟩)).lampFault = true ∧
      (after (.agreementTimerExpiry 15) (lamp ⟨some false, .stopped, .running 200⟩)).lampFault = false := by decide +kernel

/-- RUNNING with output 15 driven by the set horn latch, sensed lit, faulted at lit with 100 ms of agreement. -/
def relit : State :=
  let s := setSensePin 15 true (lamp ⟨some true, .stopped, .running 100⟩)
  handOn .silence false false (s.withAnn { s.ann with horn := true })

/-- R163, log 13: a drive that goes dark, its sense line following, pauses the agreement timer at its time; a millisecond in which the
line does not follow, or a line that moves by itself, discards it. -/
theorem test_agreement_pauses :
    let dark := after (.buttonQualificationExpiry .silence) relit
    (dark.readbackOf 15).agreement = .following 100 ∧
      ((after (.outputSenseChange 15 false) dark).readbackOf 15).agreement = .paused 100 ∧
      ((after .cadenceTick (after (.outputSenseChange 15 false) dark)).readbackOf 15).agreement = .paused 100 ∧
      ((after .cadenceTick dark).readbackOf 15).agreement = .stopped ∧
      ((after (.outputSenseChange 15 false) relit).readbackOf 15).agreement = .stopped := by decide +kernel

/-- R77, R87, R80: the gap, the attempt of a mark, and a lost arbitration. -/
theorem test_attempts :
    (after .interframeGapSensed (stationIn .running)).link.gapSensed = true ∧
      (after .attemptStart (running.withLanes (oneMark 2))).link.sending =
        some ⟨.report, ⟨own, .report ⟨2, .normal, 0#8, 0, false, false⟩⟩⟩ ∧
      (after .arbLost (reporting 0 0)).link.lanes = oneMark 0 ∧ (after .arbLost (reporting 0 0)).link.arbLost = 1#16 := by
  decide +kernel

/-- R81, R84, R83: a collision, an objection, and a corrupt frame. -/
theorem test_failures :
    headFailed .report (after .collided (reporting 0 0)).link.lanes = 1 ∧
      (after .objected (reporting 0 0)).link.objected = 1#16 ∧
      (after (.frameReceivedCorrupt []) running).link.receivedBad = 1#16 ∧
      (after (.frameReceivedCorrupt []) running).link.objecting = true := by decide +kernel

/-- R39, R40: a REPORT of the peer creates its entry and takes the slot. -/
theorem test_report_delivered :
    (after (.reportDelivered peer (report .alert 1#8)) running).table.entries = [entryOf peer .alert] ∧
      (after (.reportDelivered peer (report .alert 1#8)) running).table.slots[(1 : GroupNo)] = some ⟨peer, 2⟩ := by
  decide +kernel

/-- R70, R143: an OPERATOR frame for this station, and a RESYNC_REQUEST that lists it. -/
theorem test_requests_delivered :
    ((after (.operatorDelivered peer ⟨own, .ack, [⟨3, 0#8⟩, ⟨3, 0#8⟩]⟩) (timed restingInput (pointIn .alert))).point 3).state =
        .acked ∧
      (after (.operatorDelivered peer ⟨own, .ack, [⟨3, 0#8⟩, ⟨3, 0#8⟩]⟩)
        (timed restingInput (pointIn .alert))).engine.itemsRefused = 1#16 ∧
      (after (.resyncRequestDelivered peer [own]) running).link.lanes.repair = [freshRepair (.dump false)] := by decide +kernel

/-- R44, R47: a DUMP without records and a JOIN each leave no entry of their source. -/
theorem test_dump_and_join_delivered :
    (takeDump ⟨.beforeRevival, true, true⟩ peer ⟨3#8, []⟩ (holding [entryOf peer .alert] running)).table.entries = [] ∧
      (after (.joinDelivered peer ⟨3#8, .resetPin, .ms100⟩) (holding [entryOf peer .alert] running)).table.entries = [] ∧
      ((after (.joinDelivered peer ⟨3#8, .resetPin, .ms100⟩) running).member peer).joinCause = some .resetPin := by
  decide +kernel

/-- R137, R140: a PRESENCE of the cadence reference sets the phase, and a digest that differs asks for the repair. -/
theorem test_presence_delivered :
    let t := takePresence ⟨.afterRevival, false, false⟩ peer (presence 0#8 1) running
    t.ann.phase = 77 ∧ t.repairOf peer = ⟨.requested, 1, .running 500 0⟩ ∧
      t.link.lanes.repair = [freshRepair (.request [peer])] := by decide +kernel

/-- R128: a LEAVE makes the entries of its source stale. -/
theorem test_leave_delivered :
    (takeLeaveFrame ⟨.afterRevival, false, false⟩ peer .supplyLow (holding [entryOf peer .alert] running)).table.entries =
      [{ entryOf peer .alert with stale := true }] := by decide +kernel

/-- R183, R184: a STATUS request, byte by byte, is answered; a gap that runs out and a framing fault are counted. -/
theorem test_service_bytes :
    (after (.serviceByteReceived 0xFF#8)
        (portWith { ServicePort.atReset with rx := some almost, gap := .running 100 5 })).service.response =
          some (responseBytes 1#8 .ok running.statusPayload) ∧
      (after .serviceGapTimerExpiry
        (portWith { ServicePort.atReset with rx := some almost, gap := .running 100 100 })).service.errors = 1#16 ∧
      (after .serviceFramingFault running).service.errors = 1#16 ∧
      (after .responseComplete (portWith { ServicePort.atReset with response := some [1#8] })).service.response = none := by
  decide +kernel

/-- R182, R186: what drives STX in reset, in STARTING, between responses and during one. -/
theorem test_stx :
    State.reset.stxPin = .released ∧ (stationIn .starting).stxPin = .idle ∧ running.stxPin = .idle ∧
      (after (.status ⟨[], 0#8⟩) running).stxPin = .sending [1#8, 1#8, 0#8, 0#8, 0xFE#8] := by decide +kernel

/-- R185: the payload lengths of the five read requests. -/
theorem test_payload_lengths :
    running.statusPayload.length = 32 ∧ running.tablePayload.length = 17 ∧ running.rosterPayload.length = 336 ∧
      running.pointsPayload.length = 135 ∧ running.control.storeImage.toList.length = 96 := by decide +kernel

/-- R171, R172, R184: SETUP outside SETUP_WAIT, one of a wrong length, and a request of kind 7. -/
theorem test_setup_and_unknown :
    (after (.setup ⟨[], requestCheck 6#8 []⟩) running).service.response = some (responseBytes 6#8 .locked []) ∧
      (after (.setup ⟨[], requestCheck 6#8 []⟩) (stationIn .setupWait)).service.response =
        some (responseBytes 6#8 .invalid [1#8, 0#8]) ∧
      (after (.unknownRequestKind 7#8 ⟨[], requestCheck 7#8 []⟩) running).service.response =
        some (responseBytes 7#8 .unknownRequest []) ∧
      (after (.readPoints ⟨[], requestCheck 4#8 []⟩) (stationIn .storing)).service.response =
        some (responseBytes 4#8 .busy []) := by decide +kernel

/-- A command's word: no row of the table gives bits. -/
theorem test_no_command_word : decodeTableWord 0 0 = none ∧ decodeTableWord 8 1 = none := by decide

end Sys2Proof.Tests
end

/-! PROOFS. Chapter 1, points and the alarm sequence: field events (R6), items (R8) and the ITEMS_REFUSED counter. -/

namespace Sys2Proof.Machine

/-! ### A change of a point (R11) -/

/-- The engine after a change: one record is written, whatever the hand-over. -/
theorem changePoint_engine (p : PointNo) (st : SeqState) (s : State) :
    (changePoint p st s).engine =
      { s.engine with
        points := s.engine.points.set p { s.point p with state := st, revision := (s.point p).revision + 1#8 } } :=
  handOver_engine _ _

theorem point_changePoint_self (p : PointNo) (st : SeqState) (s : State) :
    (changePoint p st s).point p = { s.point p with state := st, revision := (s.point p).revision + 1#8 } := by
  rw [point_changePoint, if_pos rfl]

theorem point_changePoint_of_ne {p q : PointNo} (h : q ≠ p) (st : SeqState) (s : State) :
    (changePoint p st s).point q = s.point q := by
  rw [point_changePoint, if_neg h]

theorem changePoint_itemsRefused (p : PointNo) (st : SeqState) (s : State) :
    (changePoint p st s).engine.itemsRefused = s.engine.itemsRefused := by
  rw [changePoint_engine]

/-! ### Field events (R5, R6) -/

/-- A cell of the table with a new state is a change of the point. -/
theorem fieldEvent_of_move {p : PointNo} {ev : FieldEvent} {s : State} {st : SeqState} (ha : s.active = true)
    (he : (s.point p).enabled = true)
    (hm : fieldMove (s.groupOptions (s.point p).group) (s.point p).state ev = some st) :
    fieldEvent p ev s = changePoint p st s := by
  simp [fieldEvent, ha, he, hm]

/-- A cell without a new state leaves the whole state, whether or not the engine takes the event. -/
theorem fieldEvent_of_no_move {p : PointNo} {ev : FieldEvent} {s : State}
    (hm : fieldMove (s.groupOptions (s.point p).group) (s.point p).state ev = none) : fieldEvent p ev s = s := by
  simp [fieldEvent, hm]

/-- What a field event can do: nothing, or one change of its own point. -/
theorem fieldEvent_cases (p : PointNo) (ev : FieldEvent) (s : State) :
    fieldEvent p ev s = s ∨ ∃ st, fieldEvent p ev s = changePoint p st s := by
  unfold fieldEvent
  split
  · split
    · next st _ => exact .inr ⟨st, rfl⟩
    · exact .inl rfl
  · exact .inl rfl

theorem point_fieldEvent_of_ne {p q : PointNo} (h : q ≠ p) (ev : FieldEvent) (s : State) :
    (fieldEvent p ev s).point q = s.point q := by
  obtain heq | ⟨st, heq⟩ := fieldEvent_cases p ev s
  · rw [heq]
  · rw [heq, point_changePoint_of_ne h]

/-- A maintained input raises FIELD_ASSERT and FIELD_CLEAR alone (R24). -/
theorem event_of_maintained {r : InputRecord} {level : Bool} {ev : FieldEvent} (hs : r.sensitivity = .maintained)
    (h : r.event level = some ev) : ev = .assert ∨ ev = .clear := by
  cases level with
  | true => exact .inl (by simp_all [InputRecord.event])
  | false => exact .inr (by simp_all [InputRecord.event])

/-- A momentary input raises FIELD_CAPTURE alone (R25). -/
theorem event_of_momentary {r : InputRecord} {level : Bool} {ev : FieldEvent} (hs : r.sensitivity = .momentary)
    (h : r.event level = some ev) : ev = .capture := by
  cases level with
  | true => simp_all [InputRecord.event]
  | false => simp [InputRecord.event, hs] at h

/-- Settles O14: the cells of R6 are those of `fieldMove`, and each cell is a change of the point or nothing. -/
theorem fieldEventsFollowTheTable : Obligations.FieldEventsFollowTheTable := by
  unfold Obligations.FieldEventsFollowTheTable
  constructor
  · intro p ev s hactive henabled after
    have table : after = fieldMove (s.groupOptions (s.point p).group) (s.point p).state ev := by
      cases hstate : (s.point p).state with
      | normal | unackCleared | ringback => cases ev <;> simp [after, hstate, fieldMove]
      | alert | acked =>
        -- the group's options decide FIELD_CLEAR, and nothing else moves these two states
        cases ev with
        | clear => simp [after, hstate, fieldMove, apply_ite some]
        | assert | capture => simp [after, hstate, fieldMove]
    refine ⟨fun st hst => ?_, fun hnone => ?_, fun q hq => ?_⟩
    · have hchange := fieldEvent_of_move hactive henabled (table ▸ hst)
      exact ⟨hchange, hchange ▸ point_changePoint_self p st s⟩
    · exact fieldEvent_of_no_move (table ▸ hnone)
    · exact point_fieldEvent_of_ne hq ev s
  · intro r level ev h
    exact ⟨fun hs => event_of_maintained hs h, fun hs => event_of_momentary hs h⟩

/-! ### Items (R8) -/

/-- An item with a move is taken as a change of its point. -/
theorem takeItem_of_move {a : Action} {s : State} {i : Item} {st : SeqState} (h : s.itemMove? a i = some st) :
    takeItem a s i = changePoint i.point st s := by
  simp [takeItem, h]

/-- An item without a move is refused. -/
theorem takeItem_of_no_move {a : Action} {s : State} {i : Item} (h : s.itemMove? a i = none) :
    takeItem a s i = refuseItem s := by
  simp [takeItem, h]

theorem refuseItem_engine (s : State) :
    (refuseItem s).engine = { s.engine with itemsRefused := s.engine.itemsRefused.bump } := rfl

/-- A refusal touches the engine alone. -/
theorem refuseItem_withEngine (s : State) : (refuseItem s).withEngine s.engine = s := rfl

theorem point_refuseItem (s : State) (q : PointNo) : (refuseItem s).point q = s.point q := rfl

theorem point_takeItem_of_ne {i : Item} {q : PointNo} (h : q ≠ i.point) (a : Action) (s : State) :
    (takeItem a s i).point q = s.point q := by
  cases hm : s.itemMove? a i with
  | some st => rw [takeItem_of_move hm, point_changePoint_of_ne h]
  | none => rw [takeItem_of_no_move hm, point_refuseItem]

/-! ### The ITEMS_REFUSED counter after a reset and in STATUS (R8, R169, R185) -/

theorem enterReset_engine (isNew : Fin 96 → Bool) (power fell : Bool) (s : State) :
    (enterReset isNew power fell s).engine = .atReset := rfl

/-- Each of the three resets leaves the Sequence Engine at its reset values. -/
theorem engine_of_reset {c : Instr} {s t : State} (hc : c = .powerOn ∨ c = .resetPin ∨ c = .supplyLow)
    (h : exec c s = .next t) : t.engine = .atReset := by
  obtain rfl | rfl | rfl := hc <;> cases h <;> exact enterReset_engine _ _ _ _

/-- ITEMS_REFUSED follows ten single bytes and seven counters. -/
theorem statusPayload_itemsRefused (s : State) :
    (s.statusPayload.drop 24).take 2 = counterBytes s.engine.itemsRefused := by
  simp [State.statusPayload, counterBytes]

/-- Settles O15: the matching item's cells of R8 are those of `State.itemMove?`, and an item is a change of its point or a counted
refusal. -/
theorem itemsFollowTheTable : Obligations.ItemsFollowTheTable := by
  unfold Obligations.ItemsFollowTheTable
  refine ⟨?_, fun _ => rfl, ?_, statusPayload_itemsRefused⟩
  · intro a i s r after
    have table : after = s.itemMove? a i := by
      by_cases hrev : r.revision = i.revision
      case neg => simp [after, r, State.itemMove?, hrev]
      case pos =>
        cases hstate : r.state with
        | normal | alert | acked | ringback => cases a <;> simp [after, r, State.itemMove?, hrev, hstate, itemMove]
        | unackCleared =>
          -- the group's ringback option decides ACK
          cases a <;> simp [after, r, State.itemMove?, hrev, hstate, itemMove, apply_ite some]
    refine ⟨fun st hst => ?_, fun hnone => ?_, fun q hq => point_takeItem_of_ne hq a s⟩
    · rw [takeItem_of_move (table ▸ hst)]
      exact ⟨rfl, point_changePoint_self i.point st s, changePoint_itemsRefused i.point st s⟩
    · rw [takeItem_of_no_move (table ▸ hnone)]
      exact ⟨refuseItem_engine s, refuseItem_withEngine s⟩
  · intro c s t hc h
    rw [engine_of_reset hc h]
    rfl

end Sys2Proof.Machine

/-! PROOFS. Chapter 7, the Roster and membership: the delivery of the own JOIN (R131), with what an own table change and the health
cause monitor leave of the Alarm Table. -/

namespace Sys2Proof.Machine

/-! ### The table apart from an owner -/

/-- A first-out slot, emptied where it names a condition of an owner. -/
def slotApartFrom (n : StationNo) (h : Option Condition) : Option Condition :=
  if h.any (fun c => c.owner == n) then none else h

/-- The table without an owner's entries and slots, its flags and its counter as they are: what no change of that owner touches. -/
def AlarmTable.apartFrom (n : StationNo) (t : AlarmTable) : AlarmTable :=
  { t with entries := t.entries.filter (fun e => decide (e.owner ≠ n)), slots := t.slots.map (slotApartFrom n) }

@[simp] theorem slotApartFrom_none (n : StationNo) : slotApartFrom n none = none := rfl

@[simp] theorem slotApartFrom_own (n : StationNo) (p : PointNo) : slotApartFrom n (some ⟨n, p⟩) = none := by
  simp [slotApartFrom]

theorem owner_ne_of_slotApartFrom {n : StationNo} {h : Option Condition} {c : Condition} (hc : slotApartFrom n h = some c) :
    c.owner ≠ n := by
  rintro rfl
  cases h with
  | none => simp at hc
  | some d =>
    unfold slotApartFrom at hc
    split at hc
    · cases hc
    · next hd => cases hc; simp at hd

/-- Emptying a slot that names an own condition is not seen apart from the owner. -/
theorem map_slotApartFrom_set {n : StationNo} {p : PointNo} {slots : Vector (Option Condition) 8} {g : GroupNo}
    (h : slots[g] = some ⟨n, p⟩) : (slots.set g none).map (slotApartFrom n) = slots.map (slotApartFrom n) := by
  ext i hi : 1
  rw [Vector.getElem_map, Vector.getElem_map, Vector.getElem_set]
  split
  · next hg =>
    subst hg
    rw [← Fin.getElem_fin, h, slotApartFrom_own, slotApartFrom_none]
  · rfl

/-- Nor is the emptying of every slot that names it. -/
theorem map_slotApartFrom_slotsWithout (n : StationNo) (p : PointNo) (slots : Vector (Option Condition) 8) :
    (slotsWithout slots ⟨n, p⟩).map (slotApartFrom n) = slots.map (slotApartFrom n) := by
  unfold slotsWithout
  rw [Vector.map_map]
  congr 1
  funext h
  simp only [Function.comp_apply]
  split
  · next hc => rw [hc, slotApartFrom_own, slotApartFrom_none]
  · rfl

/-- Where no entry is the owner's, only slots are left to empty. -/
theorem apartFrom_of_no_entry {n : StationNo} {t : AlarmTable} (h : ∀ e ∈ t.entries, e.owner ≠ n) :
    t.apartFrom n = { t with slots := t.slots.map (slotApartFrom n) } := by
  rw [AlarmTable.apartFrom, List.filter_eq_self.mpr fun e he => decide_eq_true (h e he)]

/-- The own entries are no part of the shared occupancy (R34). -/
theorem occupancy_apartFrom (n : StationNo) (t : AlarmTable) :
    occupancy (some n) (t.apartFrom n).entries = occupancy (some n) t.entries := by
  simp only [occupancy, AlarmTable.apartFrom, List.filter_filter]
  congr 2
  funext e
  by_cases he : e.owner = n <;> simp [he]

/-- R54 and R55 speak of the remote entries alone. -/
theorem overflowLaw_apartFrom (n : StationNo) (t : AlarmTable) :
    overflowLaw (some n) (t.apartFrom n) ↔ overflowLaw (some n) t := by
  unfold overflowLaw
  rw [occupancy_apartFrom]
  rfl

/-- Where a shared occupancy above 83 keeps OVERFLOW, a lawful table keeps both its flags (R54, R55). -/
theorem flags_kept {me : Option StationNo} {t : AlarmTable} {stays : Bool} (hlaw : overflowLaw me t)
    (hstays : overflowClearsAt < occupancy me t.entries → stays = true) :
    (t.overflow && stays) = t.overflow ∧ (t.tableOverflow && stays) = t.tableOverflow := by
  obtain ⟨hsame, hoccupied⟩ := hlaw
  rw [← hsame, and_self]
  cases hover : t.overflow with
  | false => rfl
  | true => exact hstays (hoccupied hover)

/-- On a lawful table the removal of the own entries clears no OVERFLOW, since it frees no shared place (R47, R55). -/
theorem withoutOwner_of_lawful {s : State} {n : StationNo} (hme : s.me = some n) (hlaw : overflowLaw s.me s.table) :
    s.withoutOwner n = s.table.apartFrom n := by
  have hstays : overflowClearsAt < occupancy s.me s.table.entries →
      decide ((s.table.apartFrom n).entries = s.table.entries ∨ 84 ≤ occupancy s.me (s.table.apartFrom n).entries) = true :=
    fun hoccupied => decide_eq_true (.inr (by rw [hme, occupancy_apartFrom, ← hme]; exact hoccupied))
  obtain ⟨hover, htableOver⟩ := flags_kept hlaw hstays
  exact (AlarmTable.mk.injEq ..).mpr ⟨rfl, rfl, hover, htableOver, rfl⟩

/-! ### What an own change leaves of the other owners -/

theorem find_eq_none_iff (t : AlarmTable) (c : Condition) : t.find c = none ↔ ∀ e ∈ t.entries, e.condition ≠ c := by
  simp [AlarmTable.find]

theorem owner_of_find {t : AlarmTable} {c : Condition} {e : Entry} (h : t.find c = some e) : e.owner = c.owner := by
  have hcond : e.condition = c := by
    simpa using List.find?_some (show t.entries.find? (fun e => e.condition == c) = some e from h)
  rw [← hcond]
  rfl

/-- A removal takes out the entries of its condition, whether or not one is held (R37). -/
theorem removeEntry_entries (me : Option StationNo) (c : Condition) (ch : Change) :
    (removeEntry me c ch).table.entries = ch.table.entries.filter (fun e => e.condition != c) := by
  unfold removeEntry
  split
  · next hnone =>
    rw [find_eq_none_iff] at hnone
    exact (List.filter_eq_self.mpr fun e he => by simpa using hnone e he).symm
  · rfl

theorem filter_apartFrom_removed (n : StationNo) (p : PointNo) (es : List Entry) :
    (es.filter (fun e => e.condition != ⟨n, p⟩)).filter (fun e => decide (e.owner ≠ n)) =
      es.filter (fun e => decide (e.owner ≠ n)) := by
  rw [List.filter_filter]
  congr 1
  funext e
  by_cases he : e.owner = n <;> simp [he, Entry.condition]

/-- The removal of an own entry leaves the rest; on a lawful table it clears no flag (R37, R55). -/
theorem removeEntry_apartFrom {n : StationNo} {ch : Change} (p : PointNo) (hlaw : overflowLaw (some n) ch.table) :
    (removeEntry (some n) ⟨n, p⟩ ch).table.apartFrom n = ch.table.apartFrom n := by
  have hshared : occupancy (some n) (ch.table.entries.filter (fun e => e.condition != ⟨n, p⟩)) =
      occupancy (some n) ch.table.entries := by
    rw [← occupancy_apartFrom n ch.table,
      ← occupancy_apartFrom n { ch.table with entries := ch.table.entries.filter (fun e => e.condition != ⟨n, p⟩) }]
    simp only [AlarmTable.apartFrom, filter_apartFrom_removed]
  have hflags := flags_kept (stays := decide (overflowClearsAt < occupancy (some n) ch.table.entries)) hlaw decide_eq_true
  unfold removeEntry
  split
  · rfl
  · simp only [AlarmTable.apartFrom, filter_apartFrom_removed, map_slotApartFrom_slotsWithout, hshared, hflags]

theorem filter_apartFrom_rewritten {n : StationNo} {e : Entry} {f : Entry → Entry} (he : e.owner = n)
    (hf : ∀ x, (f x).condition = x.condition) (es : List Entry) :
    (es.map (fun x => if x.condition = e.condition then f x else x)).filter (fun x => decide (x.owner ≠ n)) =
      es.filter (fun x => decide (x.owner ≠ n)) := by
  induction es with
  | nil => rfl
  | cons x es ih =>
    rw [List.map_cons, List.filter_cons, List.filter_cons, ih]
    split
    · next hx =>
      have hown : x.owner = n := (congrArg Condition.owner hx).trans he
      have hown' : (f x).owner = n := (congrArg Condition.owner (hf x)).trans hown
      simp [hown, hown']
    · rfl

/-- The rewriting of an own entry leaves the rest (R38). -/
theorem rewriteEntry_apartFrom {n : StationNo} {e : Entry} {f : Entry → Entry} (ch : Change) (he : e.owner = n)
    (hf : ∀ x, (f x).condition = x.condition) : (rewriteEntry e f ch).table.apartFrom n = ch.table.apartFrom n := by
  have hslots : (rewriteEntry e f ch).table.slots.map (slotApartFrom n) = ch.table.slots.map (slotApartFrom n) := by
    simp only [rewriteEntry]
    split
    · next hmoved =>
      have hheld : ch.table.slots[e.group] = some ⟨n, e.point⟩ := by
        rw [← he]; exact (of_decide_eq_true hmoved).2
      exact map_slotApartFrom_set hheld
    · rfl
  unfold AlarmTable.apartFrom
  rw [hslots]
  simp only [rewriteEntry, filter_apartFrom_rewritten he hf]

theorem updateEntry_apartFrom {n : StationNo} {e : Entry} (r : PointReport) (st : EntryState) (ch : Change) (he : e.owner = n) :
    (updateEntry e r st ch).table.apartFrom n = ch.table.apartFrom n := by
  unfold updateEntry
  split
  · rfl
  · exact rewriteEntry_apartFrom ch he (fun _ => rfl)

/-- The creation of an own entry is never a drop, and without a slot it leaves the rest (R39, R41). -/
theorem createEntry_apartFrom (n : StationNo) (r : PointReport) (st : EntryState) (ch : Change) :
    (createEntry (some n) false n r st ch).table.apartFrom n = ch.table.apartFrom n := by
  simp [createEntry, AlarmTable.apartFrom, newEntry]

/-- A local delivery's contents change the own entries and slots alone (R37 to R41). -/
theorem applyContents_apartFrom {n : StationNo} {ch : Change} (r : PointReport) (hlaw : overflowLaw (some n) ch.table) :
    (applyContents (some n) false n r ch).table.apartFrom n = ch.table.apartFrom n := by
  unfold applyContents
  split
  · exact removeEntry_apartFrom r.point hlaw
  · next st _ =>
    split
    · next e hfind => exact updateEntry_apartFrom r st ch (owner_of_find hfind)
    · exact createEntry_apartFrom n r st ch

/-! ### The removal of an owner (R47) -/

theorem removeAll_cons (me : Option StationNo) (c : Condition) (cs : List Condition) (ch : Change) :
    removeAll me (c :: cs) ch = removeAll me cs (removeEntry me c ch) := rfl

theorem mem_removeAll_entries (me : Option StationNo) (cs : List Condition) (ch : Change) (e : Entry) :
    e ∈ (removeAll me cs ch).table.entries ↔ e ∈ ch.table.entries ∧ e.condition ∉ cs := by
  induction cs generalizing ch with
  | nil => simp [removeAll]
  | cons c cs ih => simp [removeAll_cons, ih, removeEntry_entries, and_assoc]

/-- The removal of own entries, one after another, leaves the rest. -/
theorem removeAll_apartFrom {n : StationNo} (cs : List Condition) (ch : Change) (hcs : ∀ c ∈ cs, c.owner = n)
    (hlaw : overflowLaw (some n) ch.table) :
    (removeAll (some n) cs ch).table.apartFrom n = ch.table.apartFrom n := by
  induction cs generalizing ch with
  | nil => rfl
  | cons c cs ih =>
    obtain ⟨hc, hrest⟩ := List.forall_mem_cons.mp hcs
    have hone : (removeEntry (some n) c ch).table.apartFrom n = ch.table.apartFrom n := by
      cases c; cases hc
      exact removeEntry_apartFrom _ hlaw
    rw [removeAll_cons, ih _ hrest, hone]
    rwa [← overflowLaw_apartFrom, hone, overflowLaw_apartFrom]

theorem owner_of_mem_conditionsOf {n : StationNo} {es : List Entry} {c : Condition} (h : c ∈ conditionsOf n es) : c.owner = n := by
  simp only [conditionsOf, List.mem_map, List.mem_filter, beq_iff_eq] at h
  obtain ⟨e, ⟨_, howner⟩, rfl⟩ := h
  exact howner

/-- No entry of the owner stays (R47). -/
theorem owner_ne_of_mem_removeOwner {me : Option StationNo} {n : StationNo} {ch : Change} {e : Entry}
    (h : e ∈ (removeOwner me n ch).table.entries) : e.owner ≠ n := by
  intro howner
  obtain ⟨hheld, hleft⟩ := (mem_removeAll_entries me _ ch e).mp h
  exact hleft (List.mem_map.mpr ⟨e, List.mem_filter.mpr ⟨hheld, beq_iff_eq.mpr howner⟩, rfl⟩)

/-- No slot names a condition of the owner (R47). -/
theorem owner_ne_of_removeOwner_slot {me : Option StationNo} {n : StationNo} {ch : Change} {g : GroupNo} {c : Condition}
    (h : (removeOwner me n ch).table.slots[g] = some c) : c.owner ≠ n := by
  refine owner_ne_of_slotApartFrom (h := (removeAll me (conditionsOf n ch.table.entries) ch).table.slots[g]) ?_
  rw [← h, Fin.getElem_fin, Fin.getElem_fin]
  exact (Vector.getElem_map _ _).symm

/-- The own removal takes the own entries and slots out of a lawful table, and nothing else (R47, R55). -/
theorem removeOwner_own_table {n : StationNo} {ch : Change} (hlaw : overflowLaw (some n) ch.table) :
    (removeOwner (some n) n ch).table = ch.table.apartFrom n := by
  have hleft : ∀ e ∈ (removeAll (some n) (conditionsOf n ch.table.entries) ch).table.entries, e.owner ≠ n := fun _ he =>
    owner_ne_of_mem_removeOwner (ch := ch) he
  calc (removeOwner (some n) n ch).table
    _ = (removeAll (some n) (conditionsOf n ch.table.entries) ch).table.apartFrom n := (apartFrom_of_no_entry hleft).symm
    _ = ch.table.apartFrom n := removeAll_apartFrom _ ch (fun _ => owner_of_mem_conditionsOf) hlaw

/-! ### The hand-over of a change (R12) -/

/-- In a state that marks, a hand-over leaves the table. -/
theorem handOver_table_of_marks {p : PointNo} {s : State} (h : s.marks = true) : (handOver p s).table = s.table := by
  simp [handOver, h]

/-- A hand-over touches the own entries and slots alone. -/
theorem handOver_apartFrom {n : StationNo} {s : State} (p : PointNo) (hme : s.me = some n) (hlaw : overflowLaw (some n) s.table) :
    (handOver p s).table.apartFrom n = s.table.apartFrom n := by
  unfold handOver
  split
  · rfl
  · simp only [localDeliver, hme, takeChange_table]
    exact applyContents_apartFrom _ hlaw

/-- A hand-over touches the REPORT lane alone of the Link Controller. -/
theorem handOver_link (p : PointNo) (s : State) :
    ∃ marks, (handOver p s).link = { s.link with lanes := { s.link.lanes with report := marks } } := by
  unfold handOver
  split
  · exact ⟨_, requestReport_link p s⟩
  · exact ⟨_, localDeliver_link p s⟩

/-! ### The health cause monitor (R17) -/

/-- What the health cause monitor can do: move the engine, and hand point 16 over or not. -/
theorem healthSync_cases (s : State) :
    ∃ x, healthSync s = s.withEngine x ∨ healthSync s = handOver 16 (s.withEngine x) := by
  unfold healthSync
  split
  · obtain heq | ⟨st, heq⟩ := fieldEvent_cases 16 (if s.anyCause then .assert else .clear)
      (s.withEngine { s.engine with healthLevel := s.anyCause })
    · exact ⟨_, .inl heq⟩
    · exact ⟨_, .inr heq⟩
  · exact ⟨s.engine, .inl rfl⟩

theorem healthSync_table_of_marks {s : State} (h : s.marks = true) : (healthSync s).table = s.table := by
  obtain ⟨x, heq | heq⟩ := healthSync_cases s <;> rw [heq]
  · rfl
  · exact handOver_table_of_marks h

theorem healthSync_apartFrom {n : StationNo} {s : State} (hme : s.me = some n) (hlaw : overflowLaw (some n) s.table) :
    (healthSync s).table.apartFrom n = s.table.apartFrom n := by
  obtain ⟨x, heq | heq⟩ := healthSync_cases s <;> rw [heq]
  · rfl
  · exact handOver_apartFrom 16 hme hlaw

theorem healthSync_link (s : State) :
    ∃ marks, (healthSync s).link = { s.link with lanes := { s.link.lanes with report := marks } } := by
  obtain ⟨x, heq | heq⟩ := healthSync_cases s <;> rw [heq]
  · exact ⟨s.link.lanes.report, rfl⟩
  · exact handOver_link 16 (s.withEngine x)

theorem causeMoment_apartFrom {n : StationNo} {s : State} (o : Orders) (hme : s.me = some n)
    (hlaw : overflowLaw (some n) s.table) : (causeMoment o s).table.apartFrom n = s.table.apartFrom n := by
  unfold causeMoment
  split
  · exact healthSync_apartFrom hme hlaw
  · rfl

/-! ### The end of a command -/

theorem finish_table_of_marks {s : State} (h : s.marks = true) : (finish s).table = s.table := by
  rw [finish, settle_table, healthSync_table_of_marks h]

theorem finish_lanesOpen (s : State) : (finish s).link.lanesOpen = s.link.lanesOpen := by
  obtain ⟨marks, hlink⟩ := healthSync_link s
  rw [finish, settle_link, hlink]

theorem finish_repairLane (s : State) : (finish s).link.lanes.repair = s.link.lanes.repair := by
  obtain ⟨marks, hlink⟩ := healthSync_link s
  rw [finish, settle_link, hlink]

/-! ### The delivery of the own frame (R88) -/

/-- Before the frame's own effects the Link Controller's touch no other owner. -/
theorem ownDelivered_apartFrom {n : StationNo} {s : State} (o : Orders) (lane : Lane) (hme : s.me = some n)
    (hlaw : overflowLaw (some n) s.table) : (ownDelivered o lane s).table.apartFrom n = s.table.apartFrom n :=
  causeMoment_apartFrom o hme hlaw

/-! ### The DUMP mark (R96) -/

theorem any_isDump_requestDumpMark (onAir : Bool) (lane : List RepairEntry) :
    (requestDumpMark onAir lane).any RepairEntry.isDump = true := by
  unfold requestDumpMark
  split
  · next hheld =>
    cases lane with
    | nil => exact hheld
    | cons e rest =>
      dsimp only
      split
      · rfl
      · exact hheld
  · simp [freshRepair, RepairEntry.isDump]

/-- Where the lanes take requests the DUMP mark is held after a request for it. -/
theorem requestDump_held {s : State} (h : s.lanesTake = true) : (requestDump s).link.lanes.repair.any RepairEntry.isDump = true := by
  rw [requestDump, if_pos h]
  exact any_isDump_requestDumpMark _ _

@[simp] theorem requestDump_lanesOpen (s : State) : (requestDump s).link.lanesOpen = s.link.lanesOpen := by
  unfold requestDump; split <;> rfl

/-! ### The steps of R131 -/

theorem mem_presentStations (s : State) (m : StationNo) : m ∈ s.presentStations ↔ (s.member m).state = .present := by
  simp [State.presentStations, mem_all]

/-- The cause recorded in the SELF entry is no change of who is PRESENT. -/
theorem recordOwnCause_member_state (c : JoinCause) (s : State) (m : StationNo) :
    ((recordOwnCause c s).member m).state = (s.member m).state := by
  unfold recordOwnCause
  split
  · rw [member_setMember]
    split
    · next hm => rw [hm]
    · rfl
  · rfl

theorem recordOwnCause_joinCause {n : StationNo} {s : State} (c : JoinCause) (hme : s.me = some n) :
    ((recordOwnCause c s).member n).joinCause = some c := by
  rw [recordOwnCause, hme]
  dsimp only
  rw [member_setMember, if_pos rfl]

@[simp] theorem recordOwnCause_control (c : JoinCause) (s : State) : (recordOwnCause c s).control = s.control := by
  unfold recordOwnCause; split <;> rfl
@[simp] theorem recordOwnCause_table (c : JoinCause) (s : State) : (recordOwnCause c s).table = s.table := by
  unfold recordOwnCause; split <;> rfl
@[simp] theorem recordOwnCause_link (c : JoinCause) (s : State) : (recordOwnCause c s).link = s.link := by
  unfold recordOwnCause; split <;> rfl

/-- The own JOIN's delivery before the awaited set is looked at: R92, the steps of R131, and R47. -/
def ownJoinSteps (n : StationNo) (c : JoinCause) (s : State) : State :=
  removeJoiner n (requestDump (formAwaited (recordOwnCause c (openLanes s))))

theorem ownJoin_of_joining {s : State} (n : StationNo) (b : JoinBody) (h : s.control.station = .joining) :
    ownJoin n b s = runIfNoneAwaited (ownJoinSteps n b.cause s) := if_pos h

/-- JOIN_DELIVERED for the JOIN this station has on the medium in JOINING. -/
theorem exec_ownJoin {s : State} {n : StationNo} {b : JoinBody} (hactive : s.active = true)
    (hjoining : s.control.station = .joining)
    (hsending : s.link.sending = some { lane := .roll, frame := { source := n, payload := .join b } }) :
    exec (.joinDelivered n b) s =
      .next (finish (runIfNoneAwaited (ownJoinSteps n b.cause (ownDelivered (Config.orders s.draws) .roll s.drawn)))) := by
  have hdrawn : s.drawn.active = true := hactive
  have hexec : exec (.joinDelivered n b) s = execJoinDelivered n b s := rfl
  rw [hexec, execJoinDelivered, whenActive, if_pos hactive, takeJoin, deliver, if_pos hdrawn, drawn_link, hsending,
    ← ownJoin_of_joining n b (by rw [ownDelivered_control]; exact hjoining)]
  dsimp only
  rw [if_pos rfl]

section
variable (n : StationNo) (c : JoinCause) (s : State)

@[simp] theorem ownJoinSteps_control : (ownJoinSteps n c s).control = s.control := by
  simp [ownJoinSteps, removeJoiner, formAwaited, openLanes]

@[simp] theorem ownJoinSteps_lanesOpen : (ownJoinSteps n c s).link.lanesOpen = true := by
  simp [ownJoinSteps, removeJoiner, formAwaited, openLanes]

theorem ownJoinSteps_table : (ownJoinSteps n c s).table = (removeOwner s.me n ⟨s.table, []⟩).table := by
  simp [ownJoinSteps, removeJoiner, formAwaited, openLanes, State.me]

theorem ownJoinSteps_roster :
    (ownJoinSteps n c s).roster = (formAwaited (recordOwnCause c (openLanes s))).roster := by
  simp [ownJoinSteps, removeJoiner]

theorem ownJoinSteps_held (h : s.lanesTake = true) :
    (ownJoinSteps n c s).link.lanes.repair.any RepairEntry.isDump = true := by
  rw [ownJoinSteps, removeJoiner, takeChange_link]
  refine requestDump_held ?_
  simpa [State.lanesTake, State.active, formAwaited, openLanes] using h

theorem ownJoinSteps_joinCause (hme : s.me = some n) : ((ownJoinSteps n c s).member n).joinCause = some c := by
  rw [State.member, ownJoinSteps_roster]
  exact recordOwnCause_joinCause (s := openLanes s) c hme

theorem ownJoinSteps_presence : (ownJoinSteps n c s).roster.presence = .running (intervalMs s.ownInterval) 0 := by
  rw [ownJoinSteps_roster]
  simp [formAwaited, State.ownInterval, openLanes, Timer.start]

theorem ownJoinSteps_joinWindow : (ownJoinSteps n c s).roster.joinWindow = .running 2000 0 := by
  rw [ownJoinSteps_roster]
  rfl

theorem mem_ownJoinSteps_awaited (m : StationNo) :
    m ∈ (ownJoinSteps n c s).roster.awaited ↔ (s.member m).state = .present := by
  rw [ownJoinSteps_roster]
  show m ∈ (recordOwnCause c (openLanes s)).presentStations ↔ _
  rw [mem_presentStations, recordOwnCause_member_state]
  rfl

end

/-! ### The awaited set as it is formed (R131, R133) -/

theorem enterRunning_station (s : State) : (enterRunning s).control.station = .running := rfl

/-- Leaving JOINING discards the awaited set and stops the join window (R132, R133). -/
theorem enterRunning_roster {s : State} (h : s.control.station = .joining) :
    (enterRunning s).roster = { s.roster with awaited := [], joinWindow := .stopped } := by
  simp [enterRunning, leaveState, h]

theorem runIfNoneAwaited_of_none {s : State} (hjoining : s.control.station = .joining) (h : s.roster.awaited = []) :
    runIfNoneAwaited s = enterRunning s := if_pos ⟨by simp [h], hjoining⟩

theorem runIfNoneAwaited_of_awaited {s : State} {m : StationNo} (h : m ∈ s.roster.awaited) : runIfNoneAwaited s = s :=
  if_neg fun hempty => by simp [List.isEmpty_iff.mp hempty.1] at h

/-- What the look at the awaited set can do in JOINING. -/
theorem runIfNoneAwaited_cases {s : State} (hjoining : s.control.station = .joining) :
    (s.roster.awaited = [] ∧ runIfNoneAwaited s = enterRunning s) ∨
      ((∃ m, m ∈ s.roster.awaited) ∧ runIfNoneAwaited s = s) := by
  cases h : s.roster.awaited with
  | nil => exact .inl ⟨rfl, runIfNoneAwaited_of_none hjoining h⟩
  | cons m rest => exact .inr ⟨⟨m, List.mem_cons_self⟩, runIfNoneAwaited_of_awaited (m := m) (by simp [h])⟩

@[simp] theorem runIfNoneAwaited_table (s : State) : (runIfNoneAwaited s).table = s.table := by
  unfold runIfNoneAwaited; split <;> simp
@[simp] theorem runIfNoneAwaited_link (s : State) : (runIfNoneAwaited s).link = s.link := by
  unfold runIfNoneAwaited; split <;> simp

theorem runIfNoneAwaited_presence {s : State} (hjoining : s.control.station = .joining) :
    (runIfNoneAwaited s).roster.presence = s.roster.presence := by
  obtain ⟨_, heq⟩ | ⟨_, heq⟩ := runIfNoneAwaited_cases hjoining <;> rw [heq]
  rw [enterRunning_roster hjoining]

theorem runIfNoneAwaited_member {s : State} (hjoining : s.control.station = .joining) (m : StationNo) :
    (runIfNoneAwaited s).member m = s.member m := by
  obtain ⟨_, heq⟩ | ⟨_, heq⟩ := runIfNoneAwaited_cases hjoining <;> rw [heq]
  simp only [State.member, enterRunning_roster hjoining]

/-- In JOINING with the lanes open, and in RUNNING, changes are handed over by REPORT marks (R12). -/
theorem runIfNoneAwaited_marks {s : State} (hjoining : s.control.station = .joining) (hopen : s.link.lanesOpen = true) :
    (runIfNoneAwaited s).marks = true := by
  obtain ⟨_, heq⟩ | ⟨_, heq⟩ := runIfNoneAwaited_cases hjoining <;> rw [heq]
  · rfl
  · simp [State.marks, hjoining, hopen]

theorem lanesTake_of_joining {s : State} (hactive : s.active = true) (hjoining : s.control.station = .joining) :
    s.lanesTake = true := by
  simp [State.lanesTake, hactive, hjoining, StationState.silent]

/-- The table after the own JOIN's steps on a lawful table: the own entries and slots are gone, and nothing else (R47). The health cause
monitor may have moved the own point 16 before, and what it did goes with the own entries. -/
theorem ownJoin_table_of_lawful {s : State} {n : StationNo} (o : Orders) (lane : Lane) (c : JoinCause) (hme : s.me = some n)
    (hlaw : overflowLaw (some n) s.table) :
    (ownJoinSteps n c (ownDelivered o lane s)).table = s.table.apartFrom n := by
  have hbefore : (ownDelivered o lane s).table.apartFrom n = s.table.apartFrom n := ownDelivered_apartFrom o lane hme hlaw
  have hme' : (ownDelivered o lane s).me = some n := by rw [State.me, ownDelivered_control]; exact hme
  have hlaw' : overflowLaw (some n) (ownDelivered o lane s).table := by
    rwa [← overflowLaw_apartFrom, hbefore, overflowLaw_apartFrom]
  rw [ownJoinSteps_table, hme', removeOwner_own_table hlaw', hbefore]

/-- Settles O45: the Link Controller's effects, the steps of R131 with R47 and R92, the look at the awaited set and the end of the
command, one after another. -/
theorem ownJoinOpensTheLanes : Obligations.OwnJoinOpensTheLanes := by
  unfold Obligations.OwnJoinOpensTheLanes
  intro s n b hactive hme hjoining hsending
  refine ⟨_, exec_ownJoin hactive hjoining hsending, ?_⟩
  set u := ownDelivered (Config.orders s.draws) .roll s.drawn
  set v := ownJoinSteps n b.cause u with hv
  have hcontrol : u.control = s.control := ownDelivered_control _ _ _
  have hroster : u.roster = s.roster := ownDelivered_roster _ _ _
  have hme' : u.me = some n := by rw [State.me, hcontrol]; exact hme
  have hvjoining : v.control.station = .joining := by rw [hv, ownJoinSteps_control, hcontrol, hjoining]
  have htakes : u.lanesTake = true :=
    lanesTake_of_joining (by rw [State.active, hcontrol]; exact hactive) (by rw [hcontrol, hjoining])
  have hinterval : u.ownInterval = s.ownInterval := by rw [State.ownInterval, hcontrol]; rfl
  have hawaited : ∀ m : StationNo, m ∈ v.roster.awaited ↔ (s.member m).state = .present := fun m => by
    rw [hv, mem_ownJoinSteps_awaited, State.member, hroster]; rfl
  have htable : (finish (runIfNoneAwaited v)).table = (removeOwner u.me n ⟨u.table, []⟩).table := by
    rw [finish_table_of_marks (runIfNoneAwaited_marks hvjoining (ownJoinSteps_lanesOpen n b.cause u)), runIfNoneAwaited_table, hv,
      ownJoinSteps_table]
  refine ⟨?lanesOpen, ?joinCause, ?presence, ?dumpMark, ?noOwnEntry, ?noOwnSlot, ?lawful, ?nonePresent, ?somePresent⟩
  case lanesOpen => rw [finish_lanesOpen, runIfNoneAwaited_link, hv, ownJoinSteps_lanesOpen]
  case joinCause => rw [member_finish, runIfNoneAwaited_member hvjoining, hv, ownJoinSteps_joinCause n b.cause u hme']
  case presence => rw [finish_roster, runIfNoneAwaited_presence hvjoining, hv, ownJoinSteps_presence, hinterval]
  case dumpMark => rw [finish_repairLane, runIfNoneAwaited_link, hv, ownJoinSteps_held n b.cause u htakes]
  case noOwnEntry =>
    rw [htable]
    exact fun _ => owner_ne_of_mem_removeOwner
  case noOwnSlot =>
    rw [htable]
    exact fun _ _ => owner_ne_of_removeOwner_slot
  case lawful =>
    intro hlaw
    rw [htable, ← ownJoinSteps_table n b.cause u, withoutOwner_of_lawful hme hlaw]
    exact ownJoin_table_of_lawful (s := s.drawn) _ _ _ hme (hme ▸ hlaw)
  case nonePresent =>
    intro hnone
    have hempty : v.roster.awaited = [] := List.eq_nil_iff_forall_not_mem.mpr fun m hm => hnone m ((hawaited m).mp hm)
    rw [runIfNoneAwaited_of_none hvjoining hempty, finish_control, finish_roster, enterRunning_roster hvjoining]
    exact ⟨enterRunning_station v, rfl, rfl⟩
  case somePresent =>
    rintro ⟨m, hm⟩
    rw [runIfNoneAwaited_of_awaited ((hawaited m).mpr hm), finish_control, finish_roster]
    exact ⟨hvjoining, ownJoinSteps_joinWindow n b.cause u, hawaited⟩

end Sys2Proof.Machine

/-! PROOFS. What one step can do, said once: every command is a chain of the acts below (`step_acts`), so that a law of the device is
shown by showing that each act keeps it. -/

namespace Sys2Proof.Machine

/-! ### The acts of a command -/

/-- What the laws read of Station Control. -/
def StationControl.sameStage (c d : StationControl) : Prop :=
  d.station = c.station ∧ d.number = c.number ∧ d.inReset = c.inReset ∧ d.loaded = c.loaded ∧ d.storeWrite = c.storeWrite

/-- A state that differs from another only in what no law reads: timers and values recorded, phase, TEST and counters, port and pins, and
a horn latch that may have been cleared. -/
def State.aside (s t : State) : Prop :=
  s.control.sameStage t.control ∧ t.engine = s.engine ∧ t.monitor = s.monitor ∧ t.table = s.table ∧ t.link = s.link ∧
    t.repair = s.repair ∧ t.ann.scope = s.ann.scope ∧ (t.ann.horn = true → s.ann.horn = true) ∧ t.pending = s.pending ∧
    ∀ n, (t.member n).state = (s.member n).state

/-- What an OPERATOR entry sends. -/
def OperatorEntry.sends (e : OperatorEntry) : StationNo × List Item := (e.target, e.items)

/-- What an element of the REPAIR lane stands for, whether or not a DUMP mark is flagged again. -/
def RepairEntry.plain (e : RepairEntry) : RepairWork :=
  match e.work with
  | .dump _ => .dump false
  | .request os => .request os

/-- The lanes hold nothing new: marks, entries and works are among those held before, none more often. -/
def Lanes.within (k l : Lanes) : Prop :=
  (l.report.map (fun m => m.point)).Subperm (k.report.map (fun m => m.point)) ∧
    (l.operator.map OperatorEntry.sends).Subperm (k.operator.map OperatorEntry.sends) ∧
    (l.repair.map RepairEntry.plain).Subperm (k.repair.map RepairEntry.plain)

/-- The Link Controller puts nothing new in the three counted lanes and nothing new on the medium, and closes no lane. -/
def LinkController.within (k l : LinkController) : Prop :=
  k.lanes.within l.lanes ∧ (l.sending = k.sending ∨ l.sending = none) ∧ (l.lanesOpen = k.lanesOpen ∨ l.lanesOpen = true)

/-- The table changes of 03_the_alarm_table.md, by what brings them about. -/
inductive TableAct (me : Option StationNo) : (Change → Change) → Prop
  | stale (b : Bool) (n : StationNo) : TableAct me (setStale b n)
  | contents (give : Bool) (n : StationNo) (r : PointReport) : TableAct me (applyContents me give n r)
  | dump (n : StationNo) (records : List DumpRecord) : TableAct me (applyDump me n records)
  | owner (n : StationNo) : TableAct me (removeOwner me n)

/-- One act of a command, with the condition it is done under. -/
inductive Act : State → State → Prop
  | aside {s t} (h : s.aside t) : Act s t
  | tick (s) : Act s (tickTimers s)
  | timers {s} (m : PointMonitor) (ha : s.active = true)
      (h : ∀ i : LineNo, (m.inputs[i]).enabled = (s.input i).enabled ∧ (m.inputs[i]).sensitivity = (s.input i).sensitivity ∧
        (m.inputs[i]).qualified = (s.input i).qualified) : Act s (s.withMonitor m)
  | qualify {s} (i : LineNo) (ha : s.active = true) : Act s (qualificationExpiry i s)
  | table {s} {f : Change → Change} (ha : s.active = true) (hf : TableAct s.me f) : Act s (takeChange f s)
  | item {s} (a : Action) (i : Item) (ha : s.active = true) : Act s (takeItem a s i)
  | health (s) : Act s (healthSync s)
  | repair {s} (v : Vector RepairRecord 48)
      (h : ∀ n : StationNo, (v[n.index]).state = (s.repairOf n).state ∨ (v[n.index]).state = .none ∨ s.me ≠ some n ∨
        (s.repairOf n).state = .requested) : Act s (s.withRepair v)
  | member {s} (n : StationNo) (e : RosterEntry) (h : s.me ≠ some n ∨ (s.member n).state ≠ .self) (he : e.state ≠ .self) :
      Act s (s.setMember n e)
  | link {s} (l : LinkController) (ha : s.active = true) (h : s.link.within l)
      (hrun : l.undeliveredRun ≤ s.link.undeliveredRun ∨ l.undeliveredRun < isolationLimit) : Act s (s.withLink l)
  | dumpMark (s) : Act s (requestDump s)
  | request {s} (n : StationNo) (h : (s.repairOf n).state = .requested) : Act s (requestOwner n s)
  | withdraw {s} (n : StationNo) (ha : s.active = true) : Act s (withdrawOwner n s)
  | start {s} (ha : s.active = true) : Act s (startAttempt s)
  | press {s} (a : Action) (ha : s.active = true) : Act s (pressItems a s)
  | silent {s} (o : Orders) (st : StationState) (ha : s.active = true) (hst : st.silent = true) : Act s (enterSilent o st s)
  | isolate {s} (o : Orders) (l : LinkController) (ha : s.active = true) (h : s.link.within l) :
      Act s (enterSilent o .isolated (causeMoment o (s.withLink l)))
  | join {s} (c : JoinCause) (ha : s.active = true)
      (h : s.control.station = .listening ∨ s.control.station = .isolated ∨ s.control.station = .departed) : Act s (joinCore c s)
  | run {s} (ha : s.active = true) (h : s.control.station = .joining) : Act s (enterRunning s)
  | depart {s} (ha : s.active = true)
      (h : s.control.station = .running ∨ (s.control.station = .joining ∧ s.link.lanesOpen = true)) : Act s (enterDeparting s)
  | unconfigured {s} (r : Reason) (h : s.control.station = .setupWait) : Act s (enterUnconfigured r s)
  | setup {s} (img : Image) (hr : s.control.inReset = false) (h : s.control.station = .setupWait) (hv : imageValid img = true) :
      Act s (setupTakesEffect img s)
  | stored {s} (img : Image) (hr : s.control.inReset = false) (h : s.control.station = .storing)
      (hw : s.control.storeWrite = some img) : Act s (setupTakesEffect img (storeDone img s))
  | storedUnconfigured {s} (img : Image) (h : s.control.station = .storing) :
      Act s (enterUnconfigured .strapInvalid (storeDone img s))
  | accept {s} (img : Image) (h : s.control.station = .setupWait) (hv : imageValid img = true) : Act s (acceptSetup img s)
  | reset {s} (isNew : Fin 96 → Bool) (power fell : Bool) : Act s (enterReset isNew power fell s)
  | leaveReset {s} (straps : BitVec 6) (h : s.control.inReset = true) : Act s (leaveReset straps s)

/-- A chain of acts. -/
abbrev Acts : State → State → Prop := Relation.ReflTransGen Act

theorem Act.one {s t : State} (h : Act s t) : Acts s t := .single h

/-- A predicate each act keeps is kept along a chain. -/
theorem Acts.keeps {P : State → Prop} (h : ∀ s t, Act s t → P s → P t) {s t : State} (hst : Acts s t) (hs : P s) : P t := by
  induction hst with
  | refl => exact hs
  | tail _ hact ih => exact h _ _ hact ih

/-! ### What only depends on Station Control -/

theorem active_of_control {s t : State} (h : t.control = s.control) : t.active = s.active := by simp only [State.active, h]

theorem me_of_control {s t : State} (h : t.control = s.control) : t.me = s.me := by simp only [State.me, h]

theorem me_of_sameStage {s t : State} (h : s.control.sameStage t.control) : t.me = s.me := by simp only [State.me, h.2.1]

theorem active_of_sameStage {s t : State} (h : s.control.sameStage t.control) : t.active = s.active := by
  simp only [State.active, h.1, h.2.2.1]

theorem StationControl.sameStage_refl (c : StationControl) : c.sameStage c := ⟨rfl, rfl, rfl, rfl, rfl⟩

/-! ### Acts that no law reads -/

/-- Every block a law reads is the same. -/
theorem aside_of_same {s t : State} (hc : t.control = s.control) (he : t.engine = s.engine) (hm : t.monitor = s.monitor)
    (ht : t.table = s.table) (hl : t.link = s.link) (hp : t.repair = s.repair) (ha : t.ann = s.ann) (hr : t.roster = s.roster)
    (hq : t.pending = s.pending) :
    s.aside t :=
  ⟨hc ▸ s.control.sameStage_refl, he, hm, ht, hl, hp, by rw [ha], by rw [ha]; exact id, hq, fun n => by simp only [State.member, hr]⟩

theorem acts_of_same {s t : State} (hc : t.control = s.control) (he : t.engine = s.engine) (hm : t.monitor = s.monitor)
    (ht : t.table = s.table) (hl : t.link = s.link) (hp : t.repair = s.repair) (ha : t.ann = s.ann) (hr : t.roster = s.roster)
    (hq : t.pending = s.pending) :
    Acts s t := (Act.aside (aside_of_same hc he hm ht hl hp ha hr hq)).one

/-- A move of Station Control's timers and records. -/
theorem acts_withControl {s : State} {c : StationControl} (h : s.control.sameStage c) : Acts s (s.withControl c) :=
  (Act.aside (t := s.withControl c) ⟨h, rfl, rfl, rfl, rfl, rfl, rfl, id, rfl, fun _ => rfl⟩).one

/-- A move of the Annunciation Unit that sets no horn latch. -/
theorem acts_withAnn {s : State} {x : Annunciation} (hs : x.scope = s.ann.scope) (hh : x.horn = true → s.ann.horn = true) :
    Acts s (s.withAnn x) :=
  (Act.aside (t := s.withAnn x) ⟨s.control.sameStage_refl, rfl, rfl, rfl, rfl, rfl, hs, hh, rfl, fun _ => rfl⟩).one

/-- A move of the Roster that changes no entry's state. -/
theorem acts_withRoster {s : State} {x : Roster} (h : ∀ i : Fin 48, (x.entries[i]).state = (s.roster.entries[i]).state) :
    Acts s (s.withRoster x) :=
  (Act.aside (t := s.withRoster x) ⟨s.control.sameStage_refl, rfl, rfl, rfl, rfl, rfl, rfl, id, rfl, fun n => h n.index⟩).one

theorem acts_setMember_same {s : State} {n : StationNo} {e : RosterEntry} (h : e.state = (s.member n).state) :
    Acts s (s.setMember n e) := by
  refine acts_withRoster fun i => ?_
  rw [vector_get_set]
  split
  · next hi => rw [h, hi]; rfl
  · rfl

theorem acts_drawn (s : State) : Acts s s.drawn := acts_of_same rfl rfl rfl rfl rfl rfl rfl rfl rfl

theorem acts_withPins (s : State) (x : Pins) : Acts s (s.withPins x) := acts_of_same rfl rfl rfl rfl rfl rfl rfl rfl rfl

theorem acts_withService (s : State) (x : ServicePort) : Acts s (s.withService x) :=
  acts_of_same rfl rfl rfl rfl rfl rfl rfl rfl rfl

/-- Settling moves the read-back records alone. -/
theorem acts_settle (s : State) : Acts s (settle s) := by
  have hscope : (settle s).ann.scope = s.ann.scope := congrArg (fun a => a.scope) (settle_ann s)
  have hhorn : (settle s).ann.horn = s.ann.horn := congrArg (fun a => a.horn) (settle_ann s)
  exact (Act.aside ⟨(settle_control s) ▸ s.control.sameStage_refl, by simp, by simp, by simp, by simp, by simp, hscope,
    by rw [hhorn]; exact id, settle_pending s, fun n => by simp [State.member]⟩).one

/-- The end of a command. -/
theorem acts_finish (s : State) : Acts s (finish s) := (Act.health s).one.trans (acts_settle _)

theorem acts_causeMoment (o : Orders) (s : State) : Acts s (causeMoment o s) := by
  unfold causeMoment
  split
  · exact (Act.health s).one
  · exact .refl

theorem acts_whenActive {f : State → State} {s : State} (h : s.active = true → Acts s (f s)) : Acts s (whenActive f s) := by
  unfold whenActive
  split
  · next ha => exact h ha
  · exact .refl

theorem acts_whenAwake {f : State → State} {s : State} (h : s.control.inReset = false → Acts s (f s)) :
    Acts s (whenAwake f s) := by
  unfold whenAwake
  split
  · exact .refl
  · next hr => exact h (by simpa using hr)

/-! ### The lanes -/

theorem Lanes.within_refl (l : Lanes) : l.within l := ⟨.refl _, .refl _, .refl _⟩

/-- A move of the Link Controller outside the counted lanes. -/
theorem acts_link_same {s : State} {l : LinkController} (ha : s.active = true) (hl : l.lanes = s.link.lanes)
    (hs : l.sending = s.link.sending ∨ l.sending = none) (ho : l.lanesOpen = s.link.lanesOpen ∨ l.lanesOpen = true)
    (hr : l.undeliveredRun = s.link.undeliveredRun ∨ l.undeliveredRun = 0) : Acts s (s.withLink l) :=
  (Act.link l ha ⟨hl ▸ s.link.lanes.within_refl, hs, ho⟩ (by
    rcases hr with hr | hr <;> rw [hr]
    · exact .inl (Nat.le_refl _)
    · exact .inl (Nat.zero_le _))).one

/-- A move of the lanes that puts nothing new in them. -/
theorem acts_withLanes {s : State} {l : Lanes} (ha : s.active = true) (h : s.link.lanes.within l) : Acts s (s.withLanes l) :=
  (Act.link (s := s) { s.link with lanes := l } ha ⟨h, .inl rfl, .inl rfl⟩ (.inl (Nat.le_refl _))).one

theorem map_onHead {α β : Type} {f : α → α} {g : α → β} (h : ∀ x, g (f x) = g x) (l : List α) :
    (onHead f l).map g = l.map g := by
  cases l with
  | nil => rfl
  | cons x xs => simp [onHead, h]

theorem subperm_of_eq {α : Type} {l k : List α} (h : l = k) : l.Subperm k := h ▸ .refl _

/-- A failed attempt is counted in the head. -/
theorem within_failHead (lane : Lane) (l : Lanes) : l.within (failHead lane l) := by
  cases lane with
  | report => exact ⟨subperm_of_eq (map_onHead (f := fun m => { m with failed := m.failed + 1 }) (fun _ => rfl) l.report), .refl _, .refl _⟩
  | operator => exact ⟨.refl _, subperm_of_eq (map_onHead (f := fun e => { e with failed := e.failed + 1 }) (fun _ => rfl) l.operator), .refl _⟩
  | repair => exact ⟨.refl _, .refl _, subperm_of_eq (map_onHead (f := fun e => { e with failed := e.failed + 1 }) (fun _ => rfl) l.repair)⟩
  | roll => exact l.within_refl

theorem within_dropReport (l : List ReportMark) :
    ((dropReport l).map (fun m => m.point)).Subperm (l.map (fun m => m.point)) := by
  cases l with
  | nil => exact .refl _
  | cons m rest =>
    dsimp only [dropReport]
    split
    · rw [List.map_append]
      exact (List.perm_append_comm (l₁ := rest.map _) (l₂ := [m.point])).subperm
    · exact (List.sublist_cons_self _ _).subperm

theorem within_dropRepair (l : List RepairEntry) :
    ((dropRepair l).map RepairEntry.plain).Subperm (l.map RepairEntry.plain) := by
  cases l with
  | nil => exact .refl _
  | cons e rest =>
    dsimp only [dropRepair]
    split
    · next hw =>
      have he : e.plain = .dump false := by simp [RepairEntry.plain, hw]
      rw [List.map_append, List.map_cons (a := e), he]
      exact (List.perm_append_comm (l₁ := rest.map _) (l₂ := [RepairWork.dump false])).subperm
    · exact (List.sublist_cons_self _ _).subperm

theorem within_tail (l : List OperatorEntry) : (l.tail.map OperatorEntry.sends).Subperm (l.map OperatorEntry.sends) :=
  ((List.tail_sublist l).map _).subperm

/-- A delivered head leaves its lane. -/
theorem within_dropDelivered (lane : Lane) (l : Lanes) : l.within (dropDelivered lane l) := by
  cases lane with
  | report => exact ⟨within_dropReport _, .refl _, .refl _⟩
  | operator => exact ⟨.refl _, within_tail _, .refl _⟩
  | repair => exact ⟨.refl _, .refl _, within_dropRepair _⟩
  | roll =>
    simp only [dropDelivered, rollDelivered]
    split <;> exact l.within_refl

/-- An undelivered head leaves its lane. -/
theorem within_dropUndelivered (lane : Lane) (l : Lanes) : l.within (dropUndelivered lane l) := by
  cases lane with
  | report => exact ⟨within_dropReport _, .refl _, .refl _⟩
  | operator => exact ⟨.refl _, within_tail _, .refl _⟩
  | repair => exact ⟨.refl _, .refl _, within_dropRepair _⟩
  | roll =>
    simp only [dropUndelivered, rollUndelivered]
    split
    · split <;> exact l.within_refl
    · exact l.within_refl

/-! ### The Roster and the Repair Unit -/

theorem repairOf_setRepair_self (s : State) (n : StationNo) (r : RepairRecord) : (s.setRepair n r).repairOf n = r := by
  rw [repairOf_setRepair, if_pos rfl]

theorem acts_setRepair {s : State} {n : StationNo} {r : RepairRecord}
    (h : r.state = .none ∨ s.me ≠ some n ∨ (s.repairOf n).state = .requested) : Acts s (s.setRepair n r) := by
  refine (Act.repair _ fun m => ?_).one
  rw [vector_get_set]
  split
  · next hm =>
    rw [index_inj hm]
    exact .inr h
  · exact .inl rfl

theorem acts_endRepair {s : State} (n : StationNo) (ha : s.active = true) : Acts s (endRepair n s) :=
  (acts_setRepair (.inl rfl)).tail (.withdraw n ha)

theorem acts_awaitedRemove {s : State} (n : StationNo) (ha : s.active = true) : Acts s (awaitedRemove n s) := by
  unfold awaitedRemove
  dsimp only
  split
  · split
    · next h =>
      refine .tail (acts_withRoster ?_) (.run ha h.2)
      exact fun _ => rfl
    · exact acts_withRoster fun _ => rfl
  · exact .refl

/-- What a loss or a departure hands on. -/
theorem acts_handOnLoss {s : State} (o : Orders) (n : StationNo) (ha : s.active = true) : Acts s (handOnLoss o n s) := by
  have h1 : (takeChange (setStale true n) s).active = true := by rw [active_takeChange, ha]
  have h2 : (causeMoment o (endRepair n (takeChange (setStale true n) s))).active = true := by simp [State.active] at h1 ⊢; exact h1
  exact (((Act.table ha (.stale true n)).one.trans (acts_endRepair n h1)).trans (acts_causeMoment o _)).trans
    (acts_awaitedRemove n h2)

theorem acts_silenceExpiry {s : State} (o : Orders) (n : StationNo) (ha : s.active = true) : Acts s (silenceExpiry o n s) := by
  unfold silenceExpiry
  dsimp only
  split
  · next h =>
    exact (Act.member n _ (.inr (by rw [h.1]; decide)) (by simp)).one.trans (acts_handOnLoss o n ha)
  · exact .refl

theorem acts_takeLeave {s : State} (o : Orders) (n : StationNo) (ha : s.active = true) (hn : s.me ≠ some n) :
    Acts s (takeLeave o n s) :=
  (Act.member n _ (.inl hn) (by simp)).one.trans (acts_handOnLoss o n ha)

theorem acts_revive {s : State} (n : StationNo) (ha : s.active = true) : Acts s (revive n s) := by
  have hear (h : (s.member n).state ≠ .self) :
      Acts s (takeChange (setStale false n) (s.setMember n { s.member n with state := .present })) :=
    (Act.member n _ (.inr h) (by simp)).one.tail (.table ha (.stale false n))
  unfold revive
  split
  · next h => exact hear (by rw [h]; decide)
  · next h => exact hear (by rw [h]; decide)
  · next h => exact hear (by rw [h]; decide)
  · exact .refl
  · exact .refl

theorem acts_recordAndTime {s : State} (n : StationNo) {f : RosterEntry → RosterEntry} (hf : ∀ e, (f e).state = e.state) :
    Acts s (recordAndTime n f s) := acts_setMember_same (hf _)

theorem acts_rosterTake {s : State} (n : StationNo) {f : RosterEntry → RosterEntry} (hf : ∀ e, (f e).state = e.state)
    (ha : s.active = true) : Acts s (rosterTake n f s) := (acts_revive n ha).trans (acts_recordAndTime n hf)

theorem acts_restartCheck {s : State} (n : StationNo) (c : Byte) (ha : s.active = true) : Acts s (restartCheck n c s) := by
  unfold restartCheck
  split
  · exact acts_setMember_same rfl
  · split
    · exact .refl
    · refine .tail (acts_setMember_same ?_) (.table ha (.owner n))
      rfl

theorem acts_adoptCadence (n : StationNo) (p : Phase) (s : State) : Acts s (adoptCadence n p s) := by
  unfold adoptCadence
  split
  · exact acts_withAnn rfl id
  · exact .refl

theorem acts_compareDigest {s : State} (n : StationNo) (b : PresenceBody) (hn : s.me ≠ some n) : Acts s (compareDigest n b s) := by
  unfold compareDigest
  split
  · split
    · exact acts_setRepair (.inl rfl)
    · exact .tail (acts_setRepair (.inr (.inl hn))) (.request n (repairOf_setRepair_self ..▸ rfl))
  · exact .refl

/-- R145: only a REQUESTED record's timer acts. -/
theorem acts_repairExpiry (n : StationNo) (s : State) : Acts s (repairExpiry n s) := by
  unfold repairExpiry
  dsimp only
  split
  · next h =>
    split
    · exact .tail (acts_setRepair (.inr (.inr h.1))) (.request n (repairOf_setRepair_self ..▸ rfl))
    · exact acts_setRepair (.inr (.inr h.1))
  · exact .refl

end Sys2Proof.Machine

namespace Sys2Proof.Machine

/-! ### Station Control -/

theorem inReset_of_active {s : State} (h : s.active = true) : s.control.inReset = false := by
  simp only [State.active, Bool.and_eq_true, Bool.not_eq_true'] at h
  exact h.1

theorem station_active_of_active {s : State} (h : s.active = true) : s.control.station.active = true := by
  simp only [State.active, Bool.and_eq_true] at h
  exact h.2

theorem active_of_silent {st : StationState} (h : st.silent = true) : st.active = true := by
  cases st <;> simp_all [StationState.silent, StationState.active]

@[simp] theorem leaveState_inReset (s : State) : (leaveState s).control.inReset = s.control.inReset := by
  unfold leaveState; split <;> rfl

@[simp] theorem leaveState_supply (s : State) : (leaveState s).control.supply = s.control.supply := by
  unfold leaveState; split <;> rfl

/-- Entry into a silent state leaves of Station Control what leaving the old state leaves, but for the station state. -/
theorem enterSilent_control (o : Orders) (st : StationState) (s : State) :
    (enterSilent o st s).control = { (leaveState s).control with station := st } := by
  simp [enterSilent, stopPresence]

theorem active_enterSilent {o : Orders} {st : StationState} {s : State} (ha : s.active = true) (hst : st.silent = true) :
    (enterSilent o st s).active = true := by
  simp [State.active, enterSilent_control, inReset_of_active ha, active_of_silent hst]

theorem joinCore_control (c : JoinCause) (s : State) :
    (joinCore c s).control = { (leaveState s).control with station := .joining, joinCause := some c } := rfl

theorem active_joinCore {c : JoinCause} {s : State} (ha : s.active = true) : (joinCore c s).active = true := by
  simp [State.active, joinCore_control, inReset_of_active ha, StationState.active]

/-- Entry into DEPARTED, with the supply taken at the entry (R178). -/
theorem acts_enterDeparted {s : State} (o : Orders) (ha : s.active = true) : Acts s (enterDeparted o s) := by
  have hsilent : Acts s (enterSilent o .departed s) := (Act.silent o .departed ha rfl).one
  unfold enterDeparted
  dsimp only
  split
  · exact hsilent.tail (.join _ (active_enterSilent ha rfl) (.inr (.inr (enterSilent_station ..))))
  · exact hsilent

/-- Entry into JOINING, with the supply taken at the entry (R178). -/
theorem acts_enterJoining {s : State} (o : Orders) (c : JoinCause) (ha : s.active = true)
    (h : s.control.station = .listening ∨ s.control.station = .isolated ∨ s.control.station = .departed) :
    Acts s (enterJoining o c s) := by
  have hjoin : Acts s (joinCore c s) := (Act.join c ha h).one
  unfold enterJoining
  dsimp only
  split
  · exact hjoin.tail (.silent o .departed (active_joinCore ha) rfl)
  · exact hjoin

/-- From an isolated state the hold starts, and a LOW supply takes the station on (R178, R181). -/
theorem acts_afterIsolation {s : State} (o : Orders) (ha : s.active = true) :
    Acts s (if (startHold s).control.supply = .low then enterSilent o .departed (startHold s) else startHold s) := by
  have hhold : Acts s (startHold s) := acts_withControl ⟨rfl, rfl, rfl, rfl, rfl⟩
  split
  · exact hhold.tail (.silent o .departed (by exact ha) rfl)
  · exact hhold

theorem acts_takeWarning {s : State} (o : Orders) (ha : s.control.inReset = false) : Acts s (takeWarning o s) := by
  have hactive (h : s.control.station.active = true) : s.active = true := by simp [State.active, ha, h]
  unfold takeWarning
  split
  · next h => exact acts_enterDeparted o (hactive (by rw [h]; rfl))
  · next h =>
    split
    · next hopen => exact (Act.depart (hactive (by rw [h]; rfl)) (.inr ⟨h, hopen⟩)).one
    · exact acts_enterDeparted o (hactive (by rw [h]; rfl))
  · next h => exact (Act.depart (hactive (by rw [h]; rfl)) (.inl h)).one
  · next h => exact acts_enterDeparted o (hactive (by rw [h]; rfl))
  · exact .refl

theorem acts_takeRelease {s : State} (o : Orders) (ha : s.control.inReset = false) : Acts s (takeRelease o s) := by
  unfold takeRelease
  split
  · next h => exact acts_enterJoining o _ (by simp [State.active, ha, h, StationState.active]) (.inr (.inr h))
  · exact .refl

theorem acts_setSupply (x : Supply) (s : State) : Acts s (setSupply x s) := acts_withControl ⟨rfl, rfl, rfl, rfl, rfl⟩

theorem acts_supplyWarning {s : State} (o : Orders) (ha : s.control.inReset = false) : Acts s (supplyWarning o s) := by
  unfold supplyWarning
  split
  · exact (acts_setSupply .low s).trans (acts_takeWarning o ha)
  · exact .refl

theorem acts_supplyRelease {s : State} (o : Orders) (ha : s.control.inReset = false) : Acts s (supplyRelease o s) := by
  unfold supplyRelease
  split
  · exact (acts_setSupply .normal s).trans (acts_takeRelease o ha)
  · exact .refl

/-! ### The setup takes effect -/

theorem active_setupTakesEffect {img : Image} {s : State} (hr : s.control.inReset = false) :
    (setupTakesEffect img s).active = true := by
  simp [State.active, setupTakesEffect, hr, StationState.active]

/-- Entry into LISTENING from the state in which the setup takes effect. -/
theorem acts_enterListening {s u : State} (o : Orders) (img : Image) (hr : u.control.inReset = false)
    (h : Acts s (setupTakesEffect img u)) : Acts s (enterListening o img u) := by
  have hhealth : Acts s (healthSync (setupTakesEffect img u)) := h.tail (.health _)
  unfold enterListening
  dsimp only
  split
  · exact hhealth.tail (.silent o .departed (by rw [active_healthSync, active_setupTakesEffect hr]) rfl)
  · exact hhealth

theorem imageValid_of_examineStore {s : State} {img : Image} (h : examineStore s = .inr img) : imageValid img = true := by
  unfold examineStore at h
  split at h
  · cases h
  · cases h
  · split at h
    · cases h
    · next hv =>
      split at h
      · cases h
      · cases h
        simpa using hv

theorem acts_setupWindowExpiry {s : State} (o : Orders) (hr : s.control.inReset = false) : Acts s (setupWindowExpiry o s) := by
  have hstop : Acts s (s.withControl { s.control with setupWindow := .stopped }) := acts_withControl ⟨rfl, rfl, rfl, rfl, rfl⟩
  unfold setupWindowExpiry
  split
  · dsimp only
    split
    · next hst =>
      split
      · exact hstop.tail (.unconfigured _ hst)
      · next img himg =>
        exact acts_enterListening o img hr (hstop.tail (.setup img hr hst (imageValid_of_examineStore himg)))
    · exact hstop
  · exact .refl

theorem acts_tryOwed (s : State) : Acts s (tryOwed s) := by
  unfold tryOwed
  split
  · exact acts_withService _ _
  · exact .refl

theorem acts_storeWriteComplete {s : State} (o : Orders) (hr : s.control.inReset = false) : Acts s (storeWriteComplete o s) := by
  unfold storeWriteComplete
  split
  · next hst =>
    split
    · next img hw =>
      refine .trans ?_ (acts_tryOwed _)
      split
      · exact (Act.storedUnconfigured img hst).one
      · exact acts_enterListening o img hr (Act.stored img hr hst hw).one
    · exact .refl
  · exact .refl

/-! ### The Service Port -/

theorem imageValid_of_refusal {img : Image} (h : imageRefusal? img = none) : imageValid img = true := by
  rw [imageValid, h]; rfl

/-- A SETUP is accepted only in SETUP_WAIT and with a valid image (R171, R172). -/
theorem of_judgeSetup_accepted {s : State} {n : Nat} {kept : List Byte} {img : Image} (h : judgeSetup s n kept = .accepted img) :
    s.control.setupAccepted = false ∧ s.control.station = .setupWait ∧ imageValid img = true := by
  unfold judgeSetup at h
  split at h
  · cases h
  · next haccepted =>
    split at h
    · cases h
    · next hst =>
      split at h
      · cases h
      · split at h
        · cases h
        · split at h
          · cases h
          · next hv =>
            cases h
            exact ⟨by simpa using haccepted, by simpa using hst, imageValid_of_refusal hv⟩

theorem of_judgeRequest_accepted {s : State} {q : Request} {img : Image} (h : judgeRequest s q = .accepted img) :
    s.control.setupAccepted = false ∧ s.control.station = .setupWait ∧ imageValid img = true := by
  unfold judgeRequest at h
  split at h
  · cases h
  · split at h
    · cases h
    · split at h
      · cases h
      · split at h
        · exact of_judgeSetup_accepted h
        · split at h
          · cases h
          · cases h

theorem acts_takeRequest (q : Request) (s : State) : Acts s (takeRequest q s) := by
  unfold takeRequest
  split
  · exact acts_withService _ _
  · next img h =>
    obtain ⟨_, hst, hv⟩ := of_judgeRequest_accepted h
    exact (Act.accept img hst hv).one

theorem acts_holdBuffer (r : RxBuffer) (s : State) : Acts s (holdBuffer r s) := by
  unfold holdBuffer
  split
  · exact (acts_withService _ _).trans (acts_takeRequest _ _)
  · exact acts_withService _ _

theorem acts_serviceByte (s : State) (b : Byte) : Acts s (serviceByte s b) := by
  unfold serviceByte
  split
  · split
    · exact acts_withService _ _
    · exact acts_holdBuffer _ _
    · exact acts_holdBuffer _ _
  · exact .refl

theorem acts_serviceBytes (bytes : List Byte) (s : State) : Acts s (bytes.foldl serviceByte s) := by
  induction bytes generalizing s with
  | nil => exact .refl
  | cons b rest ih => exact (acts_serviceByte s b).trans (ih _)

theorem acts_receiveAll (kind : Byte) (body : RequestBody) (s : State) : Acts s (receiveAll kind body s) :=
  acts_serviceBytes _ s

theorem acts_discardRequest (s : State) : Acts s (discardRequest s) :=
  ((acts_withService _ _).trans (acts_withService _ _)).trans (acts_tryOwed _)

theorem acts_gapExpiry (s : State) : Acts s (gapExpiry s) := by
  unfold gapExpiry
  split
  · exact acts_discardRequest s
  · exact .refl

theorem acts_framingFault (s : State) : Acts s (framingFault s) := by
  unfold framingFault
  split
  · exact acts_discardRequest s
  · exact .refl

theorem acts_endResponse (s : State) : Acts s (endResponse s) := by
  unfold endResponse
  split
  · exact (acts_withService _ _).trans (acts_tryOwed _)
  · exact .refl

/-! ### Field lines, buttons and read-back -/

theorem acts_setMonitor {s : State} {m : PointMonitor} (ha : s.active = true)
    (h : ∀ i : LineNo, (m.inputs[i]).enabled = (s.input i).enabled ∧ (m.inputs[i]).sensitivity = (s.input i).sensitivity ∧
      (m.inputs[i]).qualified = (s.input i).qualified) : Acts s (s.withMonitor m) := (Act.timers m ha h).one

theorem acts_setButton {s : State} (k : Button) (r : ButtonRecord) (ha : s.active = true) : Acts s (s.setButton k r) :=
  acts_setMonitor ha fun _ => ⟨rfl, rfl, rfl⟩

theorem acts_timeInput {s : State} (i : LineNo) (ha : s.active = true) : Acts s (timeInput i s) := by
  refine acts_setMonitor ha fun j => ?_
  rw [vector_get_set]
  split
  · next hj => rw [hj]; exact ⟨rfl, rfl, rfl⟩
  · exact ⟨rfl, rfl, rfl⟩

theorem acts_inputChange (i : LineNo) (high : Bool) (s : State) : Acts s (inputChange i high s) := by
  have hpin : Acts s (setInputPin i high s) := acts_withPins _ _
  unfold inputChange
  split
  · next h =>
    rw [Bool.and_eq_true] at h
    exact hpin.trans (acts_timeInput i h.1)
  · exact hpin

theorem acts_buttonChange (k : Button) (high : Bool) (s : State) : Acts s (buttonChange k high s) := by
  have hpin : Acts s (setButtonPin k high s) := acts_withPins _ _
  unfold buttonChange
  split
  · next h =>
    rw [Bool.and_eq_true] at h
    exact hpin.trans (acts_setButton k _ h.1)
  · exact hpin

theorem acts_clearHorn (s : State) : Acts s (clearHorn s) := acts_withAnn rfl (by simp)

theorem acts_setTest (held : Bool) (s : State) : Acts s (setTest held s) := acts_withAnn rfl id

theorem acts_buttonEvent {s : State} (k : Button) (pressed : Bool) (ha : s.active = true) : Acts s (buttonEvent k pressed s) := by
  unfold buttonEvent
  split
  · exact (Act.press .ack ha).one.trans (acts_clearHorn _)
  · exact (Act.press .restore ha).one
  · exact acts_clearHorn s
  · exact acts_setTest true s
  · exact acts_setTest false s
  all_goals exact .refl

theorem acts_buttonExpiry {s : State} (k : Button) (ha : s.active = true) : Acts s (buttonExpiry k s) := by
  unfold buttonExpiry
  split
  · dsimp only
    split
    · exact acts_setButton k _ ha
    · exact (acts_setButton k _ ha).trans (acts_buttonEvent k _ ha)
  · exact .refl

theorem acts_setReadback (s : State) (k : LineNo) (r : ReadBack) : Acts s (s.setReadback k r) := acts_withAnn rfl id

theorem acts_senseChange (k : LineNo) (high : Bool) (s : State) : Acts s (senseChange k high s) := by
  have hpin : Acts s (setSensePin k high s) := acts_withPins _ _
  unfold senseChange
  split
  · exact hpin.trans (acts_setReadback _ _ _)
  · exact hpin

theorem acts_mismatchExpiry (k : LineNo) (s : State) : Acts s (mismatchExpiry k s) := by
  unfold mismatchExpiry
  split
  · exact acts_setReadback _ _ _
  · exact .refl

theorem acts_agreementExpiry (k : LineNo) (s : State) : Acts s (agreementExpiry k s) := by
  unfold agreementExpiry
  split
  · exact acts_setReadback _ _ _
  · exact .refl

theorem acts_advancePhase (s : State) : Acts s (advancePhase s) := acts_whenActive fun _ => acts_withAnn rfl id

/-! ### Attempts and their outcomes -/

/-- An undelivered frame: the sixteenth in a row isolates the station, and any other leaves the count below 16 (R90). -/
theorem acts_undeliver {s : State} (o : Orders) (lane : Lane) (ha : s.active = true) : Acts s (undeliver o lane s) := by
  have hwithin : s.link.within
      { s.link with
        lanes := dropUndelivered lane s.link.lanes, undelivered := s.link.undelivered.bump, degraded := true,
        undeliveredRun := s.link.undeliveredRun + 1 } := ⟨within_dropUndelivered lane _, .inl rfl, .inl rfl⟩
  unfold undeliver
  dsimp only
  split
  · refine .trans (Act.isolate o _ ha hwithin).one (acts_afterIsolation o (active_enterSilent ?_ rfl))
    rw [active_of_control (causeMoment_control ..)]
    exact ha
  · next hrun =>
    have hcount := (Act.link _ ha hwithin (.inr (by simpa using hrun))).one.trans (acts_causeMoment o _)
    split
    · refine hcount.trans (acts_enterDeparted o ?_)
      rw [active_of_control (causeMoment_control ..)]
      exact ha
    · exact hcount

theorem acts_placeOwed {s : State} (ha : s.active = true) : Acts s (s.withLanes (placeOwed s.link.lanes)) :=
  acts_withLanes ha s.link.lanes.within_refl

theorem acts_failAttempt {s : State} (o : Orders) (lane : Lane) (ha : s.active = true) : Acts s (failAttempt o lane s) := by
  have hend : Acts s (s.withLink { s.link with sending := none }) := acts_link_same ha rfl (.inr rfl) (.inl rfl) (.inl rfl)
  unfold failAttempt
  dsimp only
  split
  · exact hend.trans (acts_placeOwed (by exact ha))
  · have hfail := hend.trans (acts_withLanes (by exact ha) (within_failHead lane s.link.lanes))
    split
    · exact hfail.trans (acts_undeliver o lane ha)
    · exact hfail

theorem acts_takeObjected {s : State} (o : Orders) (ha : s.active = true) : Acts s (takeObjected o s) := by
  unfold takeObjected
  split
  · have hcount : Acts s (s.withLink { s.link with objected := s.link.objected.bump }) :=
      acts_link_same ha rfl (.inl rfl) (.inl rfl) (.inl rfl)
    exact hcount.trans (acts_failAttempt o _ ha)
  · exact acts_link_same ha rfl (.inl rfl) (.inl rfl) (.inl rfl)

theorem acts_takeCollided {s : State} (o : Orders) (ha : s.active = true) : Acts s (takeCollided o s) := by
  unfold takeCollided
  split
  · have hcount : Acts s (s.withLink { s.link with collided := s.link.collided.bump }) :=
      acts_link_same ha rfl (.inl rfl) (.inl rfl) (.inl rfl)
    exact hcount.trans (acts_failAttempt o _ ha)
  · exact .refl

theorem acts_takeArbLost {s : State} (ha : s.active = true) : Acts s (takeArbLost s) := by
  unfold takeArbLost
  split
  · have hend : Acts s (s.withLink { s.link with sending := none, arbLost := s.link.arbLost.bump }) :=
      acts_link_same ha rfl (.inr rfl) (.inl rfl) (.inl rfl)
    dsimp only
    split
    · exact hend.trans (acts_placeOwed (by exact ha))
    · exact hend
  · exact .refl

theorem acts_takeCorrupt (bytes : List ReceivedByte) (s : State) : Acts s (takeCorrupt bytes s) := by
  unfold takeCorrupt
  split
  · next h =>
    simp only [Bool.and_eq_true] at h
    exact acts_link_same h.1.1.1 rfl (.inl rfl) (.inl rfl) (.inl rfl)
  · exact .refl

theorem acts_senseGap {s : State} (ha : s.active = true) : Acts s (senseGap s) :=
  acts_link_same ha rfl (.inl rfl) (.inl rfl) (.inl rfl)

theorem acts_presenceExpiry {s : State} (ha : s.active = true) : Acts s (presenceExpiry s) := by
  have htimer : Acts s (s.withRoster { s.roster with presence := Timer.start (intervalMs s.ownInterval) }) :=
    acts_withRoster fun _ => rfl
  unfold presenceExpiry
  split
  · dsimp only
    split
    · exact htimer.trans (acts_withLanes (by exact ha) (Lanes.within_refl _))
    · exact htimer
  · exact .refl

/-! ### Deliveries -/

theorem acts_ownDelivered {s : State} (o : Orders) (lane : Lane) (ha : s.active = true) : Acts s (ownDelivered o lane s) := by
  have hcount : Acts s (s.withLink
      { s.link with
        delivered := s.link.delivered.bump, undeliveredRun := 0, objecting := false,
        degraded := s.link.degraded && headAttempt lane s.link.lanes != 1 }) :=
    acts_link_same ha rfl (.inl rfl) (.inl rfl) (.inr rfl)
  refine (hcount.trans (acts_causeMoment o _)).tail (.link _ ?_ ⟨within_dropDelivered lane _, .inr rfl, .inl rfl⟩ (.inl (Nat.le_refl _)))
  rw [active_of_control (causeMoment_control ..)]
  exact ha

/-- The delivery of a frame: what each kind does at its sender and at a receiver of another station's frame is left to its own lemma. -/
theorem acts_deliver {s : State} (o : Orders) (f : Frame) {own other : State → State} (ha : s.active = true)
    (hown : ∀ u : State, u.active = true → Acts u (own u))
    (hother : ∀ u : State, u.active = true → u.me ≠ some f.source → Acts u (other u)) : Acts s (deliver o f own other s) := by
  have hreceive : Acts s (deliver.receive o f other s) := by
    unfold deliver.receive
    split
    · have hcount : Acts s (s.withLink { s.link with receivedGood := s.link.receivedGood.bump, objecting := false }) :=
        acts_link_same ha rfl (.inl rfl) (.inl rfl) (.inl rfl)
      dsimp only
      split
      · split
        · exact hcount.tail (.silent o .halted (by exact ha) rfl)
        · exact hcount
      · next hme => exact hcount.trans (hother _ ha hme)
    · exact .refl
  unfold deliver
  rw [if_pos ha]
  split
  · split
    · exact (acts_ownDelivered o _ ha).trans (hown _ (by rw [active_of_control (ownDelivered_control ..)]; exact ha))
    · exact hreceive
  · exact hreceive

theorem acts_applyReport {s : State} (src : StationNo) (b : PointReport) (ha : s.active = true) : Acts s (applyReport src b s) :=
  (Act.table ha (.contents _ src b)).one

theorem active_rosterTake (n : StationNo) (f : RosterEntry → RosterEntry) (s : State) : (rosterTake n f s).active = s.active :=
  active_of_control (rosterTake_control ..)

theorem acts_takeReport {s : State} (o : Orders) (src : StationNo) (b : PointReport) (ha : s.active = true) :
    Acts s (takeReport o src b s) :=
  acts_deliver o _ ha (fun _ hu => acts_applyReport src b hu) fun u hu _ =>
    (acts_rosterTake src (fun _ => rfl) hu).trans (acts_applyReport src b (by rw [active_rosterTake, hu]))

theorem acts_items {s : State} (a : Action) (items : List Item) (ha : s.active = true) : Acts s (items.foldl (takeItem a) s) := by
  induction items generalizing s with
  | nil => exact .refl
  | cons i rest ih => exact .trans (Act.item a i ha).one (ih (by rw [active_of_control (takeItem_control ..), ha]))

theorem acts_takeItems {s : State} (a : Action) (items : List Item) : Acts s (takeItems a items s) := by
  unfold takeItems
  split
  · next ha => exact acts_items a items ha
  · exact .refl

theorem acts_takeOperator {s : State} (o : Orders) (src : StationNo) (b : OperatorBody) (ha : s.active = true) :
    Acts s (takeOperator o src b s) := by
  refine acts_deliver o _ ha (fun _ _ => .refl) fun u hu _ => ?_
  have htaken : Acts u (rosterTake src id u) := acts_rosterTake src (fun _ => rfl) hu
  unfold receiveOperator
  dsimp only
  split
  · exact htaken.trans (acts_takeItems _ _)
  · exact htaken

theorem acts_withdrawAll {s : State} (owners : List StationNo) (ha : s.active = true) :
    Acts s (owners.foldl (fun s n => withdrawOwner n s) s) := by
  induction owners generalizing s with
  | nil => exact .refl
  | cons n rest ih => exact .trans (Act.withdraw n ha).one (ih (by exact ha))

theorem acts_takeResync {s : State} (o : Orders) (src : StationNo) (owners : List StationNo) (ha : s.active = true) :
    Acts s (takeResync o src owners s) := by
  refine acts_deliver o _ ha (fun _ _ => .refl) fun u hu _ => ?_
  have htaken : Acts u (rosterTake src id u) := acts_rosterTake src (fun _ => rfl) hu
  have hactive : (rosterTake src id u).active = true := by rw [active_rosterTake, hu]
  unfold receiveResync
  dsimp only
  split
  · exact (htaken.tail (.dumpMark _)).trans
      (acts_withdrawAll owners (by rw [active_of_control (requestDump_control _), hactive]))
  · exact htaken.trans (acts_withdrawAll owners hactive)

theorem acts_applyDumpOf {s : State} (src : StationNo) (b : DumpBody) (ha : s.active = true) : Acts s (applyDumpOf src b s) :=
  (Act.table ha (.dump src b.records)).one

theorem acts_repairAndTable {s : State} (o : Orders) (src : StationNo) (b : DumpBody) (ha : s.active = true) :
    Acts s (repairAndTable o src b s) := by
  unfold repairAndTable
  split
  · refine ((acts_endRepair src ha).trans (acts_causeMoment o _)).trans (acts_applyDumpOf src b ?_)
    rw [active_of_control (causeMoment_control ..), active_of_control (endRepair_control ..), ha]
  · refine ((acts_applyDumpOf src b ha).trans (acts_causeMoment o _)).trans (acts_endRepair src ?_)
    rw [active_of_control (causeMoment_control ..), applyDumpOf, active_takeChange, ha]

theorem active_awaitedRemove {n : StationNo} {s : State} (ha : s.active = true) : (awaitedRemove n s).active = true := by
  unfold awaitedRemove
  dsimp only
  split
  · split
    · simp [State.active, enterRunning, inReset_of_active ha, StationState.active]
    · exact ha
  · exact ha

theorem acts_takeDump {s : State} (o : Orders) (src : StationNo) (b : DumpBody) (ha : s.active = true) :
    Acts s (takeDump o src b s) := by
  refine acts_deliver o _ ha (fun _ hu => acts_applyDumpOf src b hu) fun u hu _ => ?_
  have hactive : (rosterTake src (recordDump b) u).active = true := by rw [active_rosterTake, hu]
  have htaken : Acts u (rosterTake src (recordDump b) u) := acts_rosterTake src (fun _ => rfl) hu
  exact (htaken.trans (acts_awaitedRemove src hactive)).trans
    (acts_repairAndTable o src b (active_awaitedRemove hactive))

theorem acts_recordOwnCause (c : JoinCause) (s : State) : Acts s (recordOwnCause c s) := by
  unfold recordOwnCause
  split
  · exact acts_setMember_same rfl
  · exact .refl

theorem acts_runIfNoneAwaited {s : State} (ha : s.active = true) : Acts s (runIfNoneAwaited s) := by
  unfold runIfNoneAwaited
  split
  · next h => exact (Act.run ha h.2).one
  · exact .refl

theorem acts_ownJoin {s : State} (src : StationNo) (b : JoinBody) (ha : s.active = true) : Acts s (ownJoin src b s) := by
  unfold ownJoin
  split
  · have hopen : Acts s (openLanes s) := acts_link_same ha rfl (.inl rfl) (.inr rfl) (.inl rfl)
    have hawaited : Acts (recordOwnCause b.cause (openLanes s)) (formAwaited (recordOwnCause b.cause (openLanes s))) :=
      acts_withRoster fun _ => rfl
    have hformed : Acts s (requestDump (formAwaited (recordOwnCause b.cause (openLanes s)))) :=
      ((hopen.trans (acts_recordOwnCause _ _)).trans hawaited).tail (.dumpMark _)
    have hcontrol : (requestDump (formAwaited (recordOwnCause b.cause (openLanes s)))).control = s.control := by
      rw [requestDump_control]
      exact recordOwnCause_control _ _
    have hactive := (active_of_control hcontrol).trans ha
    exact (hformed.tail (.table hactive (.owner src))).trans
      (acts_runIfNoneAwaited ((active_takeChange ..).trans hactive))
  · exact .refl

theorem acts_takeJoin {s : State} (o : Orders) (src : StationNo) (b : JoinBody) (ha : s.active = true) :
    Acts s (takeJoin o src b s) := by
  refine acts_deliver o _ ha (fun _ hu => acts_ownJoin src b hu) fun u hu _ => ?_
  have hremoved : Acts u (removeJoiner src (rosterTake src (recordJoin b) u)) :=
    (show Acts u (rosterTake src (recordJoin b) u) from acts_rosterTake src (fun _ => rfl) hu).tail
      (.table (by rw [active_rosterTake, hu]) (.owner src))
  unfold receiveJoin
  dsimp only
  split
  · exact hremoved.tail (.dumpMark _)
  · exact hremoved

theorem acts_compareIf {s : State} (o : Orders) (place : ComparePlace) (src : StationNo) (b : PresenceBody)
    (hn : s.me ≠ some src) : Acts s (compareIf o place src b s) := by
  unfold compareIf
  split
  · exact acts_compareDigest src b hn
  · exact .refl

@[simp] theorem compareIf_control (o : Orders) (place : ComparePlace) (src : StationNo) (b : PresenceBody) (s : State) :
    (compareIf o place src b s).control = s.control := by
  unfold compareIf; split <;> simp

theorem acts_takePresence {s : State} (o : Orders) (src : StationNo) (b : PresenceBody) (ha : s.active = true) :
    Acts s (takePresence o src b s) := by
  refine acts_deliver o _ ha (fun _ _ => .refl) fun u hu hn => ?_
  have control {v : State} (h : v.control = u.control) : v.active = true ∧ v.me ≠ some src :=
    ⟨(active_of_control h).trans hu, (me_of_control h).symm ▸ hn⟩
  set u1 := compareIf o .beforeRevival src b u with h1
  set u2 := revive src u1 with h2
  set u3 := compareIf o .afterRevival src b u2 with h3
  set u4 := recordAndTime src (recordInterval b) u3 with h4
  set u5 := restartCheck src b.restartCount u4 with h5
  have before : Acts u u1 := acts_compareIf o _ src b hn
  have revival : Acts u1 u2 := acts_revive src (control (by simp [h1])).1
  have after : Acts u2 u3 := acts_compareIf o _ src b (control (by simp [h2, h1])).2
  have record : Acts u3 u4 := acts_recordAndTime src fun _ => rfl
  have restart : Acts u4 u5 := acts_restartCheck src _ (control (by simp [h4, h3, h2, h1])).1
  have last : Acts u5 (compareIf o .afterRestart src b u5) :=
    acts_compareIf o _ src b (control (by simp [h5, h4, h3, h2, h1])).2
  exact (((((before.trans revival).trans after).trans record).trans restart).trans last).trans (acts_adoptCadence src _ _)

theorem acts_takeLeaveFrame {s : State} (o : Orders) (src : StationNo) (c : LeaveCause) (ha : s.active = true) :
    Acts s (takeLeaveFrame o src c s) := by
  refine acts_deliver o _ ha (fun u hu => ?_) fun u hu hn => acts_takeLeave o src hu hn
  unfold ownLeave
  split
  · exact acts_enterDeparted o hu
  · exact .refl

/-! ### Windows -/

theorem acts_listenExpiry {s : State} (o : Orders) (ha : s.active = true) : Acts s (listenExpiry o s) := by
  unfold listenExpiry
  split
  · next h => exact acts_enterJoining o _ ha (.inl h.1)
  · exact .refl

theorem acts_joinWindowExpiry {s : State} (ha : s.active = true) : Acts s (joinWindowExpiry s) := by
  unfold joinWindowExpiry
  split
  · next h => exact (Act.run ha h.1).one
  · exact .refl

theorem acts_holdExpiry {s : State} (o : Orders) (ha : s.active = true) : Acts s (holdExpiry o s) := by
  unfold holdExpiry
  split
  · next h => exact acts_enterJoining o _ ha (.inr (.inl h.1))
  · exact .refl

theorem acts_leaveReset (straps : BitVec 6) (s : State) : Acts s (leaveReset straps s) := by
  by_cases h : s.control.inReset = true
  · exact (Act.leaveReset straps h).one
  · rw [leaveReset, if_neg h]

end Sys2Proof.Machine

/-! PROOFS. Every command as a chain of acts, that ends by settling the causes or leaves them as they stand (R17). -/

namespace Sys2Proof.Machine

/-! ### Commands that move no cause -/

/-- The four causes and the level the health cause monitor last took stand as they were, and no block starts. -/
def State.causesStand (s t : State) : Prop :=
  t.active = true → s.active = true ∧ t.anyCause = s.anyCause ∧ t.engine.healthLevel = s.engine.healthLevel

theorem State.causesStand_refl (s : State) : s.causesStand s := fun h => ⟨h, rfl, rfl⟩

theorem State.causesStand.trans {s t u : State} (h : s.causesStand t) (h' : t.causesStand u) : s.causesStand u := by
  intro hu
  obtain ⟨ht, hcause', hlevel'⟩ := h' hu
  obtain ⟨hs, hcause, hlevel⟩ := h ht
  exact ⟨hs, hcause'.trans hcause, hlevel'.trans hlevel⟩

theorem causesStand_of_not_active {s t : State} (h : t.active = false) : s.causesStand t := fun ht => absurd ht (by simp [h])

/-- The lamp fault is a matter of the faults alone (R164). -/
theorem lampFault_eq (s : State) : s.lampFault = (s.ann.readback.toList.map ReadBack.fault).any (fun f => f.isSome) := by
  rw [State.lampFault, List.any_map]
  rfl

/-- A failed repair is a matter of the record states alone (R146). -/
theorem repairFailed_eq (s : State) : s.repairFailed = (s.repair.toList.map RepairRecord.state).any (fun r => r == .failed) := by
  rw [State.repairFailed, List.any_map]
  rfl

theorem causesStand_of_same {s t : State} (hc : t.control = s.control) (he : t.engine.healthLevel = s.engine.healthLevel)
    (hf : t.ann.readback.toList.map ReadBack.fault = s.ann.readback.toList.map ReadBack.fault)
    (ht : t.table.tableOverflow = s.table.tableOverflow) (hd : t.link.degraded = s.link.degraded)
    (hr : t.repair.toList.map RepairRecord.state = s.repair.toList.map RepairRecord.state) : s.causesStand t := by
  intro hactive
  refine ⟨(active_of_control hc).symm.trans hactive, ?_, he⟩
  rw [State.anyCause, State.anyCause, lampFault_eq, lampFault_eq, repairFailed_eq, repairFailed_eq, hf, ht, hd, hr]

theorem causesStand_settle (s : State) : s.causesStand (settle s) := by
  refine causesStand_of_same (by simp) (by simp) ?_ (by simp) (by simp) (by simp)
  refine List.ext_getElem (by simp) fun i hi hi' => ?_
  rw [List.getElem_map, List.getElem_map, Vector.getElem_toList, Vector.getElem_toList]
  exact readbackOf_settle_fault s ⟨i, by simpa using hi'⟩

theorem causesStand_leaveReset (straps : BitVec 6) (s : State) : s.causesStand (leaveReset straps s) := by
  unfold leaveReset
  split
  · exact causesStand_of_not_active rfl
  · exact s.causesStand_refl

theorem causesStand_inputChange (i : LineNo) (high : Bool) (s : State) : s.causesStand (inputChange i high s) := by
  unfold inputChange
  split <;> exact causesStand_of_same rfl rfl rfl rfl rfl rfl

theorem causesStand_buttonChange (k : Button) (high : Bool) (s : State) : s.causesStand (buttonChange k high s) := by
  unfold buttonChange
  split <;> exact causesStand_of_same rfl rfl rfl rfl rfl rfl

theorem causesStand_presenceExpiry (s : State) : s.causesStand (presenceExpiry s) := by
  refine causesStand_of_same (by simp) (by simp) (by simp) (by simp) ?_ (by simp)
  unfold presenceExpiry
  split
  · dsimp only
    split <;> rfl
  · rfl

/-- A millisecond moves timers and no fault, repair state or flag. -/
theorem causesStand_tickTimers (s : State) : s.causesStand (tickTimers s) := by
  intro hactive
  refine ⟨hactive, ?_, rfl⟩
  have hf : (tickTimers s).ann.readback.toList.map ReadBack.fault = s.ann.readback.toList.map ReadBack.fault := by
    simp [tickTimers, Vector.toList_map, Function.comp_def, ReadBack.tick]
  have hr : (tickTimers s).repair.toList.map RepairRecord.state = s.repair.toList.map RepairRecord.state := by
    simp [tickTimers, Vector.toList_map, Function.comp_def]
  rw [State.anyCause, State.anyCause, lampFault_eq, lampFault_eq, repairFailed_eq, repairFailed_eq, hf, hr]
  rfl

theorem causesStand_advancePhase (s : State) : s.causesStand (advancePhase s) := by
  unfold advancePhase whenActive
  split
  · exact causesStand_of_same rfl rfl rfl rfl rfl rfl
  · exact s.causesStand_refl

theorem causesStand_cadenceTick (s : State) :
    s.causesStand (whenAwake (fun s => settle (advancePhase (tickTimers s))) s) := by
  unfold whenAwake
  split
  · exact s.causesStand_refl
  · exact ((causesStand_tickTimers s).trans (causesStand_advancePhase _)).trans (causesStand_settle _)

theorem readback_set_fault {s : State} {k : LineNo} {r : ReadBack} (h : r.fault = (s.readbackOf k).fault) :
    (s.setReadback k r).ann.readback.toList.map ReadBack.fault = s.ann.readback.toList.map ReadBack.fault := by
  refine List.ext_getElem (by simp) fun i hi hi' => ?_
  rw [List.getElem_map, List.getElem_map, Vector.getElem_toList, Vector.getElem_toList]
  have hget := readbackOf_setReadback s k ⟨i, by simpa using hi'⟩ r
  refine (congrArg ReadBack.fault hget).trans ?_
  split
  · next hk => rw [h, ← hk]; rfl
  · rfl

theorem causesStand_senseChange (k : LineNo) (high : Bool) (s : State) : s.causesStand (senseChange k high s) := by
  unfold senseChange
  split
  · exact causesStand_of_same rfl rfl (readback_set_fault (s := setSensePin k high s) rfl) rfl rfl rfl
  · exact causesStand_of_same rfl rfl rfl rfl rfl rfl

theorem causesStand_startAttempt (s : State) : s.causesStand (startAttempt s) := by
  unfold startAttempt
  split
  · split
    · exact causesStand_of_same rfl rfl rfl rfl rfl rfl
    · exact s.causesStand_refl
  · exact s.causesStand_refl

theorem causesStand_takeArbLost (s : State) : s.causesStand (takeArbLost s) := by
  unfold takeArbLost
  split
  · dsimp only
    split <;> exact causesStand_of_same rfl rfl rfl rfl rfl rfl
  · exact s.causesStand_refl

theorem causesStand_takeCorrupt (bytes : List ReceivedByte) (s : State) : s.causesStand (takeCorrupt bytes s) := by
  unfold takeCorrupt
  split
  · exact causesStand_of_same rfl rfl rfl rfl rfl rfl
  · exact s.causesStand_refl

theorem causesStand_withService (s : State) (x : ServicePort) : s.causesStand (s.withService x) :=
  causesStand_of_same rfl rfl rfl rfl rfl rfl

theorem causesStand_takeRequest (q : Request) (s : State) : s.causesStand (takeRequest q s) := by
  unfold takeRequest
  split
  · exact causesStand_withService _ _
  · exact causesStand_of_not_active (by simp [State.active, acceptSetup, StationState.active])

theorem causesStand_holdBuffer (r : RxBuffer) (s : State) : s.causesStand (holdBuffer r s) := by
  unfold holdBuffer
  split
  · exact (causesStand_withService _ _).trans (causesStand_takeRequest _ _)
  · exact causesStand_withService _ _

theorem causesStand_serviceByte (s : State) (b : Byte) : s.causesStand (serviceByte s b) := by
  unfold serviceByte
  split
  · split
    · exact causesStand_withService _ _
    · exact causesStand_holdBuffer _ _
    · exact causesStand_holdBuffer _ _
  · exact s.causesStand_refl

theorem causesStand_serviceBytes (bytes : List Byte) (s : State) : s.causesStand (bytes.foldl serviceByte s) := by
  induction bytes generalizing s with
  | nil => exact s.causesStand_refl
  | cons b rest ih => exact (causesStand_serviceByte s b).trans (ih _)

theorem causesStand_receiveAll (kind : Byte) (body : RequestBody) (s : State) : s.causesStand (receiveAll kind body s) :=
  causesStand_serviceBytes _ s

theorem causesStand_tryOwed (s : State) : s.causesStand (tryOwed s) := by
  unfold tryOwed
  split
  · exact causesStand_withService _ _
  · exact s.causesStand_refl

theorem causesStand_discardRequest (s : State) : s.causesStand (discardRequest s) :=
  ((causesStand_withService _ _).trans (causesStand_withService _ _)).trans (causesStand_tryOwed _)

theorem causesStand_gapExpiry (s : State) : s.causesStand (gapExpiry s) := by
  unfold gapExpiry
  split
  · exact causesStand_discardRequest s
  · exact s.causesStand_refl

theorem causesStand_framingFault (s : State) : s.causesStand (framingFault s) := by
  unfold framingFault
  split
  · exact causesStand_discardRequest s
  · exact s.causesStand_refl

theorem causesStand_endResponse (s : State) : s.causesStand (endResponse s) := by
  unfold endResponse
  split
  · exact (causesStand_withService _ _).trans (causesStand_tryOwed _)
  · exact s.causesStand_refl

/-! ### Every command -/

/-- What a command does: a chain of acts that ends by settling the causes and the read-back, or one that moves no cause. -/
inductive Runs (s : State) : State → Prop
  | finished {u : State} (h : Acts s u) : Runs s (finish u)
  | stands {t : State} (h : Acts s t) (hc : s.causesStand t) : Runs s t

theorem Runs.acts {s t : State} (h : Runs s t) : Acts s t := by
  cases h with
  | finished h => exact h.trans (acts_finish _)
  | stands h _ => exact h

theorem runs_refl (s : State) : Runs s s := .stands .refl s.causesStand_refl

/-- A command of the running blocks that moves no cause. -/
theorem runs_whenActive {f : State → State} {s : State} (h : s.active = true → Acts s (f s)) (hc : s.causesStand (f s)) :
    Runs s (whenActive f s) := by
  unfold whenActive
  split
  · next ha => exact .stands (h ha) hc
  · exact runs_refl s

/-- A command of the running blocks that ends by settling the causes and the read-back. -/
theorem runs_finished {f : State → State} {s : State} (h : s.active = true → Acts s (f s)) :
    Runs s (whenActive (fun s => finish (f s)) s) := by
  unfold whenActive
  split
  · next ha => exact .finished (h ha)
  · exact runs_refl s

/-- Such a command that draws a free value first. -/
theorem runs_finished_drawn {f : Orders → State → State} {s : State}
    (h : ∀ o, s.active = true → Acts s.drawn (f o s.drawn)) :
    Runs s (whenActive (fun s => finish (f (Config.orders s.draws) s.drawn)) s) :=
  runs_finished fun ha => (acts_drawn s).trans (h _ ha)

/-- Such a command that the part takes outside reset. -/
theorem runs_awake_drawn {f : Orders → State → State} {s : State}
    (h : ∀ o, s.control.inReset = false → Acts s.drawn (f o s.drawn)) :
    Runs s (whenAwake (fun s => finish (f (Config.orders s.draws) s.drawn)) s) := by
  unfold whenAwake
  split
  · exact runs_refl s
  · next hr => exact .finished ((acts_drawn s).trans (h _ (by simpa using hr)))

/-- Every command answers a next state, and runs to it. -/
theorem exec_next_runs (c : Instr) (s : State) : ∃ t, exec c s = .next t ∧ Runs s t := by
  cases c
  case powerOn | resetPin | supplyLow =>
    exact ⟨_, rfl, .stands ((acts_drawn s).tail (.reset _ _ _)) (causesStand_of_not_active rfl)⟩
  case leaveReset straps =>
    exact ⟨_, rfl, .stands (acts_leaveReset straps s) (causesStand_leaveReset straps s)⟩
  case setupWindowExpiry =>
    exact ⟨_, rfl, runs_awake_drawn fun o hr => acts_setupWindowExpiry o hr⟩
  case storeWriteComplete =>
    exact ⟨_, rfl, runs_awake_drawn fun o hr => acts_storeWriteComplete o hr⟩
  case supplyWarning =>
    exact ⟨_, rfl, runs_awake_drawn fun o hr => acts_supplyWarning o hr⟩
  case supplyRelease =>
    exact ⟨_, rfl, runs_awake_drawn fun o hr => acts_supplyRelease o hr⟩
  case inputLevelChange i high =>
    exact ⟨_, rfl, .stands (acts_inputChange i high s) (causesStand_inputChange i high s)⟩
  case qualificationTimerExpiry i =>
    exact ⟨_, rfl, runs_finished fun ha => (Act.qualify i ha).one⟩
  case buttonLevelChange k high =>
    exact ⟨_, rfl, .stands (acts_buttonChange k high s) (causesStand_buttonChange k high s)⟩
  case buttonQualificationExpiry k =>
    exact ⟨_, rfl, runs_finished fun ha => acts_buttonExpiry k ha⟩
  case listenWindowExpiry =>
    exact ⟨_, rfl, runs_finished_drawn fun o ha => acts_listenExpiry o ha⟩
  case joinWindowExpiry =>
    exact ⟨_, rfl, runs_finished fun ha => acts_joinWindowExpiry ha⟩
  case isolationHoldExpiry =>
    exact ⟨_, rfl, runs_finished_drawn fun o ha => acts_holdExpiry o ha⟩
  case presenceTimerExpiry =>
    exact ⟨_, rfl, runs_whenActive (fun ha => acts_presenceExpiry ha) (causesStand_presenceExpiry s)⟩
  case silenceTimerExpiry n =>
    exact ⟨_, rfl, runs_finished_drawn (f := fun o => silenceExpiry o n) fun o ha => acts_silenceExpiry o n ha⟩
  case repairTimerExpiry n =>
    exact ⟨_, rfl, runs_finished fun _ => acts_repairExpiry n s⟩
  case cadenceTick =>
    exact ⟨_, rfl, .stands
      (acts_whenAwake fun _ => ((Act.tick s).one.trans (acts_advancePhase _)).trans (acts_settle _)) (causesStand_cadenceTick s)⟩
  case outputSenseChange k high =>
    exact ⟨_, rfl, .stands ((acts_senseChange k high s).trans (acts_settle _))
      ((causesStand_senseChange k high s).trans (causesStand_settle _))⟩
  case mismatchTimerExpiry k =>
    exact ⟨_, rfl, runs_finished fun _ => acts_mismatchExpiry k s⟩
  case agreementTimerExpiry k =>
    exact ⟨_, rfl, runs_finished fun _ => acts_agreementExpiry k s⟩
  case attemptStart =>
    exact ⟨_, rfl, runs_whenActive (fun ha => (Act.start ha).one) (causesStand_startAttempt s)⟩
  case arbLost =>
    exact ⟨_, rfl, runs_whenActive (fun ha => acts_takeArbLost ha) (causesStand_takeArbLost s)⟩
  case collided =>
    exact ⟨_, rfl, runs_finished_drawn fun o ha => acts_takeCollided o ha⟩
  case frameReceivedCorrupt bytes =>
    exact ⟨_, rfl, .stands (acts_takeCorrupt bytes s) (causesStand_takeCorrupt bytes s)⟩
  case objected =>
    exact ⟨_, rfl, runs_finished_drawn fun o ha => acts_takeObjected o ha⟩
  case reportDelivered src b =>
    exact ⟨_, rfl, runs_finished_drawn (f := fun o => takeReport o src b) fun o ha => acts_takeReport o src b ha⟩
  case operatorDelivered src b =>
    exact ⟨_, rfl, runs_finished_drawn (f := fun o => takeOperator o src b) fun o ha => acts_takeOperator o src b ha⟩
  case resyncRequestDelivered src owners =>
    exact ⟨_, rfl, runs_finished_drawn (f := fun o => takeResync o src owners) fun o ha => acts_takeResync o src owners ha⟩
  case dumpDelivered src b =>
    exact ⟨_, rfl, runs_finished_drawn (f := fun o => takeDump o src b) fun o ha => acts_takeDump o src b ha⟩
  case joinDelivered src b =>
    exact ⟨_, rfl, runs_finished_drawn (f := fun o => takeJoin o src b) fun o ha => acts_takeJoin o src b ha⟩
  case presenceDelivered src b =>
    exact ⟨_, rfl, runs_finished_drawn (f := fun o => takePresence o src b) fun o ha => acts_takePresence o src b ha⟩
  case leaveDelivered src c =>
    exact ⟨_, rfl, runs_finished_drawn (f := fun o => takeLeaveFrame o src c) fun o ha => acts_takeLeaveFrame o src c ha⟩
  case serviceByteReceived b =>
    exact ⟨_, rfl, .stands (acts_serviceByte s b) (causesStand_serviceByte s b)⟩
  case serviceGapTimerExpiry =>
    exact ⟨_, rfl, .stands (acts_gapExpiry s) (causesStand_gapExpiry s)⟩
  case serviceFramingFault =>
    exact ⟨_, rfl, .stands (acts_framingFault s) (causesStand_framingFault s)⟩
  case responseComplete =>
    exact ⟨_, rfl, .stands (acts_endResponse s) (causesStand_endResponse s)⟩
  case status | readTable | readRoster | readPoints | readSetup | setup =>
    exact ⟨_, rfl, .stands (acts_receiveAll _ _ s) (causesStand_receiveAll _ _ s)⟩
  case interframeGapSensed =>
    exact ⟨_, rfl, runs_whenActive (fun ha => acts_senseGap ha) (causesStand_of_same rfl rfl rfl rfl rfl rfl)⟩
  case unknownRequestKind kind body =>
    exact ⟨_, rfl, .stands (acts_receiveAll kind body s) (causesStand_receiveAll kind body s)⟩

theorem exec_runs {c : Instr} {s t : State} (h : exec c s = .next t) : Runs s t := by
  obtain ⟨u, hu, hruns⟩ := exec_next_runs c s
  rw [hu] at h
  cases h
  exact hruns

theorem exec_acts {c : Instr} {s t : State} (h : exec c s = .next t) : Acts s t := (exec_runs h).acts

/-- What every command keeps, and the queue does not show, every step keeps. -/
theorem step_keeps_of_exec {P : State → Prop} (hP : ∀ (c : Instr) (s t : State), exec c s = .next t → P s → P t)
    (hq : ∀ (s : State) (q : List Instr), P s → P (s.withPending q)) (s t : State) (hs : P s) (h : step s = .next t) : P t := by
  cases hpending : s.pending with
  | nil =>
    rw [step_of_empty s hpending] at h
    cases h
    exact hs
  | cons c rest =>
    rw [step_of_cons s c rest hpending] at h
    exact hP c _ _ h (hq s rest hs)

/-- What every act keeps, and the queue does not show, every step keeps. -/
theorem step_keeps {P : State → Prop} (hP : ∀ s t, Act s t → P s → P t) (hq : ∀ (s : State) (q : List Instr), P s → P (s.withPending q))
    (s t : State) (hs : P s) (h : step s = .next t) : P t :=
  step_keeps_of_exec (fun _ _ _ hexec => (exec_acts hexec).keeps hP) hq s t hs h

end Sys2Proof.Machine

/-! PROOFS. What a qualification, a press and the moves of Station Control leave as it is, and the queue under every command. -/

namespace Sys2Proof.Machine

/-! ### Field lines and presses -/

@[simp] theorem raise_control (p : PointNo) (ev : Option FieldEvent) (s : State) : (raise p ev s).control = s.control := by unfold raise; split <;> simp
@[simp] theorem raise_roster (p : PointNo) (ev : Option FieldEvent) (s : State) : (raise p ev s).roster = s.roster := by unfold raise; split <;> simp
@[simp] theorem raise_service (p : PointNo) (ev : Option FieldEvent) (s : State) : (raise p ev s).service = s.service := by unfold raise; split <;> simp
@[simp] theorem raise_pins (p : PointNo) (ev : Option FieldEvent) (s : State) : (raise p ev s).pins = s.pins := by unfold raise; split <;> simp
@[simp] theorem raise_pending (p : PointNo) (ev : Option FieldEvent) (s : State) : (raise p ev s).pending = s.pending := by unfold raise; split <;> simp
@[simp] theorem raise_monitor (p : PointNo) (ev : Option FieldEvent) (s : State) : (raise p ev s).monitor = s.monitor := by unfold raise; split <;> simp
@[simp] theorem qualificationExpiry_control (i : LineNo) (s : State) : (qualificationExpiry i s).control = s.control := by unfold qualificationExpiry; split <;> simp
@[simp] theorem qualificationExpiry_roster (i : LineNo) (s : State) : (qualificationExpiry i s).roster = s.roster := by unfold qualificationExpiry; split <;> simp
@[simp] theorem qualificationExpiry_service (i : LineNo) (s : State) : (qualificationExpiry i s).service = s.service := by unfold qualificationExpiry; split <;> simp
@[simp] theorem qualificationExpiry_pins (i : LineNo) (s : State) : (qualificationExpiry i s).pins = s.pins := by unfold qualificationExpiry; split <;> simp
@[simp] theorem qualificationExpiry_pending (i : LineNo) (s : State) : (qualificationExpiry i s).pending = s.pending := by unfold qualificationExpiry; split <;> simp
@[simp] theorem placeGroup_control (a : Action) (snap : List Entry) (s : State) (o : StationNo) : (placeGroup a snap s o).control = s.control := by unfold placeGroup; (repeat' split) <;> simp [countOperatorDrop]
@[simp] theorem placeGroup_engine (a : Action) (snap : List Entry) (s : State) (o : StationNo) : (placeGroup a snap s o).engine = s.engine := by unfold placeGroup; (repeat' split) <;> simp [countOperatorDrop]
@[simp] theorem placeGroup_monitor (a : Action) (snap : List Entry) (s : State) (o : StationNo) : (placeGroup a snap s o).monitor = s.monitor := by unfold placeGroup; (repeat' split) <;> simp [countOperatorDrop]
@[simp] theorem placeGroup_table (a : Action) (snap : List Entry) (s : State) (o : StationNo) : (placeGroup a snap s o).table = s.table := by unfold placeGroup; (repeat' split) <;> simp [countOperatorDrop]
@[simp] theorem placeGroup_roster (a : Action) (snap : List Entry) (s : State) (o : StationNo) : (placeGroup a snap s o).roster = s.roster := by unfold placeGroup; (repeat' split) <;> simp [countOperatorDrop]
@[simp] theorem placeGroup_repair (a : Action) (snap : List Entry) (s : State) (o : StationNo) : (placeGroup a snap s o).repair = s.repair := by unfold placeGroup; (repeat' split) <;> simp [countOperatorDrop]
@[simp] theorem placeGroup_service (a : Action) (snap : List Entry) (s : State) (o : StationNo) : (placeGroup a snap s o).service = s.service := by unfold placeGroup; (repeat' split) <;> simp [countOperatorDrop]
@[simp] theorem placeGroup_pins (a : Action) (snap : List Entry) (s : State) (o : StationNo) : (placeGroup a snap s o).pins = s.pins := by unfold placeGroup; (repeat' split) <;> simp [countOperatorDrop]
@[simp] theorem placeGroup_pending (a : Action) (snap : List Entry) (s : State) (o : StationNo) : (placeGroup a snap s o).pending = s.pending := by unfold placeGroup; (repeat' split) <;> simp [countOperatorDrop]
/-- What neither a placed group nor a counted drop changes, the owner groups of a press leave. -/
theorem placeGroups_keeps {α : Type} (field : State → α)
    (hplace : ∀ (a : Action) (snap : List Entry) (s : State) (o : StationNo), field (placeGroup a snap s o) = field s)
    (hdrop : ∀ s : State, field (countOperatorDrop s) = field s) (a : Action) (snap : List Entry) (s : State) :
    field (placeGroups a snap s) = field s := by
  unfold placeGroups
  generalize remoteOwners s.me snap = owners
  induction owners generalizing s with
  | nil => rfl
  | cons o rest ih =>
    rw [List.foldl_cons, ih]
    split
    · exact hdrop s
    · exact hplace a snap s o

@[simp] theorem placeGroups_control (a : Action) (snap : List Entry) (s : State) : (placeGroups a snap s).control = s.control := by exact placeGroups_keeps (fun t => t.control) (by simp) (by simp [countOperatorDrop]) a snap s
@[simp] theorem placeGroups_engine (a : Action) (snap : List Entry) (s : State) : (placeGroups a snap s).engine = s.engine := by exact placeGroups_keeps (fun t => t.engine) (by simp) (by simp [countOperatorDrop]) a snap s
@[simp] theorem placeGroups_monitor (a : Action) (snap : List Entry) (s : State) : (placeGroups a snap s).monitor = s.monitor := by exact placeGroups_keeps (fun t => t.monitor) (by simp) (by simp [countOperatorDrop]) a snap s
@[simp] theorem placeGroups_table (a : Action) (snap : List Entry) (s : State) : (placeGroups a snap s).table = s.table := by exact placeGroups_keeps (fun t => t.table) (by simp) (by simp [countOperatorDrop]) a snap s
@[simp] theorem placeGroups_roster (a : Action) (snap : List Entry) (s : State) : (placeGroups a snap s).roster = s.roster := by exact placeGroups_keeps (fun t => t.roster) (by simp) (by simp [countOperatorDrop]) a snap s
@[simp] theorem placeGroups_repair (a : Action) (snap : List Entry) (s : State) : (placeGroups a snap s).repair = s.repair := by exact placeGroups_keeps (fun t => t.repair) (by simp) (by simp [countOperatorDrop]) a snap s
@[simp] theorem placeGroups_service (a : Action) (snap : List Entry) (s : State) : (placeGroups a snap s).service = s.service := by exact placeGroups_keeps (fun t => t.service) (by simp) (by simp [countOperatorDrop]) a snap s
@[simp] theorem placeGroups_pins (a : Action) (snap : List Entry) (s : State) : (placeGroups a snap s).pins = s.pins := by exact placeGroups_keeps (fun t => t.pins) (by simp) (by simp [countOperatorDrop]) a snap s
@[simp] theorem placeGroups_pending (a : Action) (snap : List Entry) (s : State) : (placeGroups a snap s).pending = s.pending := by exact placeGroups_keeps (fun t => t.pending) (by simp) (by simp [countOperatorDrop]) a snap s
@[simp] theorem takeOwnItems_control (a : Action) (snap : List Entry) (s : State) : (takeOwnItems a snap s).control = s.control := by unfold takeOwnItems; split <;> simp
@[simp] theorem takeOwnItems_monitor (a : Action) (snap : List Entry) (s : State) : (takeOwnItems a snap s).monitor = s.monitor := by unfold takeOwnItems; split <;> simp
@[simp] theorem takeOwnItems_roster (a : Action) (snap : List Entry) (s : State) : (takeOwnItems a snap s).roster = s.roster := by unfold takeOwnItems; split <;> simp
@[simp] theorem takeOwnItems_service (a : Action) (snap : List Entry) (s : State) : (takeOwnItems a snap s).service = s.service := by unfold takeOwnItems; split <;> simp
@[simp] theorem takeOwnItems_pins (a : Action) (snap : List Entry) (s : State) : (takeOwnItems a snap s).pins = s.pins := by unfold takeOwnItems; split <;> simp
@[simp] theorem takeOwnItems_pending (a : Action) (snap : List Entry) (s : State) : (takeOwnItems a snap s).pending = s.pending := by unfold takeOwnItems; split <;> simp
@[simp] theorem pressItems_control (a : Action) (s : State) : (pressItems a s).control = s.control := by simp [pressItems]
@[simp] theorem pressItems_monitor (a : Action) (s : State) : (pressItems a s).monitor = s.monitor := by simp [pressItems]
@[simp] theorem pressItems_roster (a : Action) (s : State) : (pressItems a s).roster = s.roster := by simp [pressItems]
@[simp] theorem pressItems_service (a : Action) (s : State) : (pressItems a s).service = s.service := by simp [pressItems]
@[simp] theorem pressItems_pins (a : Action) (s : State) : (pressItems a s).pins = s.pins := by simp [pressItems]
@[simp] theorem pressItems_pending (a : Action) (s : State) : (pressItems a s).pending = s.pending := by simp [pressItems]
@[simp] theorem buttonEvent_control (k : Button) (pressed : Bool) (s : State) : (buttonEvent k pressed s).control = s.control := by unfold buttonEvent; split <;> simp [clearHorn, setTest]
@[simp] theorem buttonEvent_monitor (k : Button) (pressed : Bool) (s : State) : (buttonEvent k pressed s).monitor = s.monitor := by unfold buttonEvent; split <;> simp [clearHorn, setTest]
@[simp] theorem buttonEvent_roster (k : Button) (pressed : Bool) (s : State) : (buttonEvent k pressed s).roster = s.roster := by unfold buttonEvent; split <;> simp [clearHorn, setTest]
@[simp] theorem buttonEvent_service (k : Button) (pressed : Bool) (s : State) : (buttonEvent k pressed s).service = s.service := by unfold buttonEvent; split <;> simp [clearHorn, setTest]
@[simp] theorem buttonEvent_pins (k : Button) (pressed : Bool) (s : State) : (buttonEvent k pressed s).pins = s.pins := by unfold buttonEvent; split <;> simp [clearHorn, setTest]
@[simp] theorem buttonEvent_pending (k : Button) (pressed : Bool) (s : State) : (buttonEvent k pressed s).pending = s.pending := by unfold buttonEvent; split <;> simp [clearHorn, setTest]
@[simp] theorem buttonExpiry_control (k : Button) (s : State) : (buttonExpiry k s).control = s.control := by unfold buttonExpiry; dsimp only; (repeat' split) <;> simp
@[simp] theorem buttonExpiry_roster (k : Button) (s : State) : (buttonExpiry k s).roster = s.roster := by unfold buttonExpiry; dsimp only; (repeat' split) <;> simp
@[simp] theorem buttonExpiry_service (k : Button) (s : State) : (buttonExpiry k s).service = s.service := by unfold buttonExpiry; dsimp only; (repeat' split) <;> simp
@[simp] theorem buttonExpiry_pins (k : Button) (s : State) : (buttonExpiry k s).pins = s.pins := by unfold buttonExpiry; dsimp only; (repeat' split) <;> simp
@[simp] theorem buttonExpiry_pending (k : Button) (s : State) : (buttonExpiry k s).pending = s.pending := by unfold buttonExpiry; dsimp only; (repeat' split) <;> simp

end Sys2Proof.Machine

/-! PROOFS. The queue under every command, and the law of the SELF entry: each act keeps both. -/

namespace Sys2Proof.Machine

/-! ### The queue -/

theorem act_pending {s t : State} (h : Act s t) : t.pending = s.pending := by
  cases h
  case aside h =>
    obtain ⟨_, _, _, _, _, _, _, _, hq, _⟩ := h
    exact hq
  case leaveReset straps h => rw [Sys2Proof.Machine.leaveReset, if_pos h]; rfl
  case tick | unconfigured | setup | stored | storedUnconfigured | accept | reset => rfl
  all_goals simp

/-- Settles O1: `step` reads the front of the queue. -/
theorem stepRunsFrontCommandOrIdles : Obligations.StepRunsFrontCommandOrIdles :=
  ⟨fun c q _ => step_of_cons _ c q rfl, step_of_empty⟩

/-- Settles O2: every command is a chain of acts, and no act touches the queue. -/
theorem everyCommandAnswersNext : Obligations.EveryCommandAnswersNext := by
  intro c s
  obtain ⟨t, ht, hruns⟩ := exec_next_runs c s
  exact ⟨t, ht, hruns.acts.keeps (P := fun u => u.pending = s.pending) (fun _ _ hact hu => (act_pending hact).trans hu) rfl⟩

/-! ### The SELF entry (R118) -/

/-- The law speaks of the reset, the own number and the states of the entries alone. -/
theorem selfInv_of_same {s t : State} (h : s.selfInv) (hr : t.control.inReset = s.control.inReset) (hme : t.me = s.me)
    (hm : ∀ n, (t.member n).state = (s.member n).state) : t.selfInv := by
  intro hreset n
  rw [hm, hme]
  exact h (hr ▸ hreset) n

theorem selfInv_of_frame {s t : State} (h : s.selfInv) (hc : t.control = s.control) (hr : t.roster = s.roster) : t.selfInv :=
  selfInv_of_same h (by rw [hc]) (me_of_control hc) fun n => by rw [State.member, hr, State.member]

/-- While the part is in reset the law asks nothing. -/
theorem selfInv_of_inReset {s : State} (h : s.control.inReset = true) : s.selfInv := fun hr => absurd hr (by simp [h])

theorem enterSilent_me (o : Orders) (st : StationState) (s : State) : (enterSilent o st s).me = s.me := by
  unfold State.me
  rw [enterSilent_control]
  unfold leaveState
  split <;> rfl

@[simp] theorem leaveState_entries (s : State) : (leaveState s).roster.entries = s.roster.entries := by
  unfold leaveState; split <;> rfl

@[simp] theorem leaveState_number (s : State) : (leaveState s).control.number = s.control.number := by
  unfold leaveState; split <;> rfl

@[simp] theorem enterSilent_entries (o : Orders) (st : StationState) (s : State) :
    (enterSilent o st s).roster.entries = s.roster.entries := by
  simp [enterSilent, stopPresence]

@[simp] theorem enterSilent_inReset (o : Orders) (st : StationState) (s : State) :
    (enterSilent o st s).control.inReset = s.control.inReset := by
  simp [enterSilent_control]

/-- A record of a table of stations after one is written. -/
theorem vector_get_set_index {α : Type} (v : Vector α 48) (m n : StationNo) (x : α) :
    (v.set m.index x)[n.index] = if n = m then x else v[n.index] := by
  have h := vector_get_set v m.index n.index x
  simp only [index_eq_iff] at h
  exact h

/-- R118: the entry that becomes SELF as the straps are read is the one of their number. -/
theorem withSelf_state (me : Option StationNo) (count : Byte) (n : StationNo) :
    ((withSelf me count Roster.atReset.entries)[n.index]).state = if me = some n then .self else .absent := by
  have hreset : (Roster.atReset.entries[n.index]).state = .absent := by simp [Roster.atReset, RosterEntry.atReset]
  cases me with
  | none => simpa [withSelf] using hreset
  | some m =>
    rw [withSelf, vector_get_set_index]
    by_cases hm : n = m
    · simp [hm]
    · rw [if_neg hm, hreset, if_neg (by simpa [eq_comm] using hm)]

/-- The own interval is recorded in the own entry; no entry changes its state (R119). -/
theorem setupTakesEffect_member_state (img : Image) (s : State) (n : StationNo) :
    ((setupTakesEffect img s).member n).state = (s.member n).state := by
  show ((ownIntervalIn s.me img s.roster.entries)[n.index]).state = _
  unfold ownIntervalIn
  split
  · rw [updateAt, vector_get_set_index]
    split
    · next hn => rw [hn]; rfl
    · rfl
  · rfl

/-- Each act keeps SELF on the own entry and off every other: only a loss, a departure and a revival change an entry's state, and none of
them touches the own entry. -/
theorem act_keeps_selfInv {s t : State} (hact : Act s t) (h : s.selfInv) : t.selfInv := by
  cases hact
  case aside ha =>
    obtain ⟨hstage, _, _, _, _, _, _, _, _, hm⟩ := ha
    exact selfInv_of_same h hstage.2.2.1 (me_of_sameStage hstage) hm
  case tick => exact selfInv_of_same h rfl rfl fun n => by simp [State.member, tickTimers]
  case member n e hn he =>
    intro hr m
    have hlaw := h hr m
    rw [member_setMember]
    split
    · next hm =>
      subst hm
      exact ⟨fun hself => absurd hself he, fun hme => hn.elim (absurd hme) (fun hne => absurd (hlaw.mpr hme) hne)⟩
    · exact hlaw
  case silent o st _ _ => exact selfInv_of_same h (by simp) (enterSilent_me ..) fun n => by simp [State.member]
  case isolate o l _ _ =>
    exact selfInv_of_same h (by simp) (by rw [enterSilent_me, me_of_control (causeMoment_control ..)]; rfl) fun n => by
      simp [State.member]
  case join c _ _ => exact selfInv_of_same h (by simp [joinCore]) (by simp [State.me, joinCore]) fun n => by simp [State.member, joinCore]
  case run => exact selfInv_of_same h (by simp [enterRunning]) (by simp [State.me, enterRunning]) fun n => by simp [State.member, enterRunning]
  case depart =>
    exact selfInv_of_same h (by simp [enterDeparting]) (by simp [State.me, enterDeparting]) fun n => by simp [State.member, enterDeparting]
  case unconfigured => exact selfInv_of_same h rfl rfl fun _ => rfl
  case setup img _ _ _ => exact selfInv_of_same h rfl rfl fun n => setupTakesEffect_member_state img s n
  case stored img _ _ _ => exact selfInv_of_same h rfl rfl fun n => setupTakesEffect_member_state img (storeDone img s) n
  case storedUnconfigured => exact selfInv_of_same h rfl rfl fun _ => rfl
  case accept => exact selfInv_of_same h rfl rfl fun _ => rfl
  case reset => exact selfInv_of_inReset rfl
  case leaveReset straps hr =>
    intro _ n
    rw [Sys2Proof.Machine.leaveReset, if_pos hr]
    have hstate := withSelf_state (StationNo.ofNat? straps.toNat) (countOfReset s.control) n
    show ((withSelf _ _ Roster.atReset.entries)[n.index]).state = .self ↔ StationNo.ofNat? straps.toNat = some n
    rw [hstate]
    split
    · next hme => simp [hme]
    · next hme => simp [hme]
  all_goals exact selfInv_of_frame h (by simp) (by simp)

/-- Settles O55. -/
theorem everyStepKeepsSelfEntry : Obligations.EveryStepKeepsSelfEntry :=
  step_keeps (fun _ _ => act_keeps_selfInv) fun _ _ => id

end Sys2Proof.Machine

/-! PROOFS. The laws of the Link Controller (R65, R77, R90, R92, R93): each act keeps them. -/

namespace Sys2Proof.Machine

/-! ### What a hand-over does to the REPORT lane -/

/-- A Link Controller that differs at most in the REPORT lane, and there marks no point twice. -/
def LinkController.marksMore (k l : LinkController) : Prop :=
  ∃ marks, l = { k with lanes := { k.lanes with report := marks } } ∧
    ((k.lanes.report.map (fun m => m.point)).Nodup → (marks.map (fun m => m.point)).Nodup)

theorem LinkController.marksMore_refl (k : LinkController) : k.marksMore k := ⟨k.lanes.report, rfl, id⟩

theorem LinkController.marksMore_trans {j k l : LinkController} (h : j.marksMore k) (h' : k.marksMore l) : j.marksMore l := by
  obtain ⟨m, rfl, hm⟩ := h
  obtain ⟨m', rfl, hm'⟩ := h'
  exact ⟨m', rfl, fun hnodup => hm' (hm hnodup)⟩

/-- R94: a request for a mark gives no point a second one. -/
theorem nodup_requestMark {onAir : Bool} {p : PointNo} {marks : List ReportMark} (h : (marks.map (fun m => m.point)).Nodup) :
    ((requestMark onAir p marks).map (fun m => m.point)).Nodup := by
  by_cases hp : ∃ m ∈ marks, m.point = p
  · have hsame : (requestMark onAir p marks).map (fun m => m.point) = marks.map (fun m => m.point) := by
      unfold requestMark
      rw [if_pos (by simpa using hp)]
      cases marks with
      | nil => rfl
      | cons m rest =>
        dsimp only
        split <;> rfl
    rwa [hsame]
  · have hnew : ∀ m ∈ marks, m.point ≠ p := by simpa using hp
    rw [requestMark_unmarked onAir p marks hnew, List.map_append, List.nodup_append]
    refine ⟨h, by simp, ?_⟩
    simpa [freshMark] using hnew

theorem handOver_marksMore (p : PointNo) (s : State) : s.link.marksMore (handOver p s).link := by
  unfold handOver
  split
  · exact ⟨_, requestReport_link p s, nodup_requestMark⟩
  · rw [localDeliver_link]
    exact s.link.marksMore_refl

theorem changePoint_marksMore (p : PointNo) (st : SeqState) (s : State) : s.link.marksMore (changePoint p st s).link :=
  handOver_marksMore p (s.setPoint p { s.point p with state := st, revision := (s.point p).revision + 1#8 })

theorem fieldEvent_marksMore (p : PointNo) (ev : FieldEvent) (s : State) : s.link.marksMore (fieldEvent p ev s).link := by
  obtain h | ⟨st, h⟩ := fieldEvent_cases p ev s <;> rw [h]
  · exact s.link.marksMore_refl
  · exact changePoint_marksMore p st s

theorem takeItem_marksMore (a : Action) (s : State) (i : Item) : s.link.marksMore (takeItem a s i).link := by
  unfold takeItem
  split
  · exact changePoint_marksMore _ _ s
  · exact s.link.marksMore_refl

theorem itemsFold_marksMore (a : Action) (items : List Item) (s : State) :
    s.link.marksMore (items.foldl (takeItem a) s).link := by
  induction items generalizing s with
  | nil => exact s.link.marksMore_refl
  | cons i rest ih => exact LinkController.marksMore_trans (takeItem_marksMore a s i) (ih _)

theorem takeItems_marksMore (a : Action) (items : List Item) (s : State) : s.link.marksMore (takeItems a items s).link := by
  unfold takeItems
  split
  · exact itemsFold_marksMore a items s
  · exact s.link.marksMore_refl

theorem raise_marksMore (p : PointNo) (ev : Option FieldEvent) (s : State) : s.link.marksMore (raise p ev s).link := by
  unfold raise
  split
  · exact fieldEvent_marksMore _ _ s
  · exact s.link.marksMore_refl

theorem qualificationExpiry_marksMore (i : LineNo) (s : State) : s.link.marksMore (qualificationExpiry i s).link := by
  unfold qualificationExpiry
  split
  · exact raise_marksMore _ _ (s.setInput i _)
  · exact s.link.marksMore_refl

theorem healthSync_marksMore (s : State) : s.link.marksMore (healthSync s).link := by
  unfold healthSync
  split
  · exact fieldEvent_marksMore 16 _ (s.withEngine _)
  · exact s.link.marksMore_refl

theorem healthSync_not_active {s : State} (h : s.active = false) : healthSync s = s := by simp [healthSync, h]

theorem takeOwnItems_marksMore (a : Action) (snap : List Entry) (s : State) :
    s.link.marksMore (takeOwnItems a snap s).link := by
  unfold takeOwnItems
  split
  · exact takeItems_marksMore _ _ s
  · exact s.link.marksMore_refl

/-! ### The kinds of the REPAIR lane -/

/-- R65, R93: the REPAIR lane's law, on the kinds of its elements. -/
def kindLaw (kinds : List Bool) : Prop := kinds.count true ≤ 1 ∧ kinds.count false ≤ 2

theorem laneLaw_iff (l : Lanes) :
    laneLaw l ↔ (l.report.map (fun m => m.point)).Nodup ∧ l.operator.length ≤ operatorRoom ∧
      kindLaw (l.repair.map RepairEntry.isDump) := by
  have hdump (lane : List RepairEntry) : (lane.filter RepairEntry.isDump).length = (lane.map RepairEntry.isDump).count true := by
    rw [← List.countP_eq_length_filter, List.count, List.countP_map]
    congr 1; funext e; simp
  have hother (lane : List RepairEntry) :
      (lane.filter (fun e => !e.isDump)).length = (lane.map RepairEntry.isDump).count false := by
    rw [← List.countP_eq_length_filter, List.count, List.countP_map]
    congr 1; funext e; simp
  rw [laneLaw, hdump, hother, kindLaw]

theorem kindLaw_of_subperm {k l : List Bool} (h : l.Subperm k) (hk : kindLaw k) : kindLaw l :=
  ⟨(h.count_le true).trans hk.1, (h.count_le false).trans hk.2⟩

theorem nodup_of_subperm {α : Type} {k l : List α} (h : l.Subperm k) (hk : k.Nodup) : l.Nodup := by
  obtain ⟨m, hperm, hsub⟩ := h
  exact hperm.nodup_iff.mp (hk.sublist hsub)

theorem subperm_map {α β : Type} {k l : List α} (f : α → β) (h : l.Subperm k) : (l.map f).Subperm (k.map f) := by
  obtain ⟨m, hperm, hsub⟩ := h
  exact ⟨m.map f, hperm.map f, hsub.map f⟩

/-- Whether a work is a DUMP mark. -/
def RepairWork.isDump : RepairWork → Bool
  | .dump _ => true
  | .request _ => false

theorem isDump_plain (e : RepairEntry) : e.plain.isDump = e.isDump := by
  cases hw : e.work <;> simp [RepairEntry.plain, RepairEntry.isDump, RepairWork.isDump, hw]

theorem kinds_eq_plain (lane : List RepairEntry) :
    lane.map RepairEntry.isDump = (lane.map RepairEntry.plain).map RepairWork.isDump := by
  rw [List.map_map]
  exact List.map_congr_left fun e _ => (isDump_plain e).symm

/-- Lanes that hold nothing new keep their law. -/
theorem laneLaw_of_within {k l : Lanes} (h : k.within l) (hk : laneLaw k) : laneLaw l := by
  rw [laneLaw_iff] at hk ⊢
  obtain ⟨hreport, hoperator, hrepair⟩ := h
  obtain ⟨hnodup, hroom, hkinds⟩ := hk
  refine ⟨nodup_of_subperm hreport hnodup, ?_, ?_⟩
  · have := hoperator.length_le
    simp only [List.length_map] at this
    exact this.trans hroom
  · rw [kinds_eq_plain] at hkinds ⊢
    exact kindLaw_of_subperm (subperm_map _ hrepair) hkinds

/-- R96: the lane holds one DUMP mark at most after a request for it. -/
theorem kindLaw_requestDumpMark {onAir : Bool} {lane : List RepairEntry} (h : kindLaw (lane.map RepairEntry.isDump)) :
    kindLaw ((requestDumpMark onAir lane).map RepairEntry.isDump) := by
  unfold requestDumpMark
  split
  · cases lane with
    | nil => exact h
    | cons e rest =>
      dsimp only
      split
      · next he =>
        have hkind : ({ e with work := .dump true } : RepairEntry).isDump = e.isDump := he.2.symm
        rwa [List.map_cons, hkind]
      · exact h
  · next hnone =>
    have hcount : (lane.map RepairEntry.isDump).count true = 0 := by
      rw [List.count_eq_zero]
      simpa using hnone
    rw [List.map_append]
    refine ⟨?_, ?_⟩
    · rw [List.count_append, hcount]; simp [freshRepair, RepairEntry.isDump]
    · rw [List.count_append]; simpa [freshRepair, RepairEntry.isDump] using h.2

theorem appendOwner_kinds {o : StationNo} {lane w : List RepairEntry} (h : appendOwner o lane = some w) :
    w.map RepairEntry.isDump = lane.map RepairEntry.isDump := by
  induction lane generalizing w with
  | nil => simp [appendOwner] at h
  | cons e rest ih =>
    unfold appendOwner at h
    split at h
    · next os hw =>
      cases h
      rw [List.map_cons, List.map_cons]
      congr 1
      split
      · rfl
      · simp [RepairEntry.isDump, hw]
    · obtain ⟨w', hw', rfl⟩ := Option.map_eq_some_iff.mp h
      rw [List.map_cons, List.map_cons, ih hw']

/-- R96: the lane holds two requests at most after a request for an owner. -/
theorem kindLaw_requestOwnerIn {onAir : Bool} {o : StationNo} {lane : List RepairEntry}
    (h : kindLaw (lane.map RepairEntry.isDump)) : kindLaw ((requestOwnerIn onAir o lane).map RepairEntry.isDump) := by
  unfold requestOwnerIn
  dsimp only
  split
  · next w hw =>
    rw [List.map_append, appendOwner_kinds hw, ← List.map_append]
    cases onAir with
    | true => rwa [if_pos rfl, if_pos rfl, List.take_append_drop]
    | false => exact h
  · split
    · next hroom =>
      have hfew : (lane.map RepairEntry.isDump).count false < 2 := by
        rw [← List.countP_eq_length_filter] at hroom
        rw [List.count, List.countP_map]
        convert hroom using 2
        funext e; simp
      rw [List.map_append]
      refine ⟨?_, ?_⟩
      · rw [List.count_append]; simpa [freshRepair, RepairEntry.isDump] using h.1
      · rw [List.count_append]
        simp only [freshRepair, RepairEntry.isDump, List.map_cons, List.map_nil, List.count_singleton]
        simpa using hfew
    · exact h

theorem withdrawFrom_kind {o : StationNo} {e e' : RepairEntry} (h : withdrawFrom o e = some e') : e'.isDump = e.isDump := by
  unfold withdrawFrom at h
  split at h
  · cases h; rfl
  · next os hw =>
    split at h
    · split at h
      · cases h
      · cases h; simp [RepairEntry.isDump, hw]
    · cases h; rfl

theorem withdrawn_kinds (o : StationNo) (lane : List RepairEntry) :
    ((lane.filterMap (withdrawFrom o)).map RepairEntry.isDump).Sublist (lane.map RepairEntry.isDump) := by
  induction lane with
  | nil => exact .refl _
  | cons e rest ih =>
    rw [List.filterMap_cons]
    split
    · exact ih.cons _
    · next e' he' =>
      rw [List.map_cons, List.map_cons, withdrawFrom_kind he']
      exact ih.cons_cons _

/-- R142: a withdrawal adds no element. -/
theorem kindLaw_withdrawIn {onAir : Bool} {o : StationNo} {lane : List RepairEntry}
    (h : kindLaw (lane.map RepairEntry.isDump)) : kindLaw ((withdrawIn onAir o lane).map RepairEntry.isDump) := by
  refine kindLaw_of_subperm (List.Sublist.subperm ?_) h
  cases onAir with
  | false => exact withdrawn_kinds o lane
  | true =>
    cases lane with
    | nil => exact .refl _
    | cons e rest => exact (withdrawn_kinds o rest).cons_cons _

/-! ### The OPERATOR lane -/

theorem mergeInto_length {o : StationNo} {a : Action} {items : List Item} {lane l : List OperatorEntry}
    (h : mergeInto o a items lane = some l) : l.length = lane.length := by
  induction lane generalizing l with
  | nil => simp [mergeInto] at h
  | cons e rest ih =>
    unfold mergeInto at h
    split at h
    · cases h; rfl
    · obtain ⟨l', hl', rfl⟩ := Option.map_eq_some_iff.mp h
      rw [List.length_cons, List.length_cons, ih hl']

/-- A press changes the OPERATOR lane alone of the Link Controller, and keeps its room (R65, R67). -/
theorem placeGroup_link (a : Action) (snap : List Entry) (s : State) (o : StationNo) :
    ∃ lane, (placeGroup a snap s o).link = { s.link with lanes := { s.link.lanes with operator := lane } } ∧
      (s.link.lanes.operator.length ≤ operatorRoom → lane.length ≤ operatorRoom) := by
  unfold placeGroup
  split
  · next lane hlane => exact ⟨lane, rfl, fun h => (mergeInto_length hlane).trans_le h⟩
  · split
    · next hroom => exact ⟨_, rfl, fun _ => by rw [List.length_append]; exact hroom⟩
    · exact ⟨s.link.lanes.operator, rfl, id⟩

theorem placeGroups_link (a : Action) (snap : List Entry) (s : State) :
    ∃ lane, (placeGroups a snap s).link = { s.link with lanes := { s.link.lanes with operator := lane } } ∧
      (s.link.lanes.operator.length ≤ operatorRoom → lane.length ≤ operatorRoom) := by
  unfold placeGroups
  generalize remoteOwners s.me snap = owners
  induction owners generalizing s with
  | nil => exact ⟨_, rfl, id⟩
  | cons o rest ih =>
    rw [List.foldl_cons]
    split
    · exact ih (countOperatorDrop s)
    · obtain ⟨l, hl, hroom⟩ := placeGroup_link a snap s o
      obtain ⟨l', hl', hroom'⟩ := ih (placeGroup a snap s o)
      rw [hl] at hl' hroom'
      exact ⟨l', hl', fun h => hroom' (hroom h)⟩

/-! ### The law of what is sent (R77, R91, R92) -/

/-- What an offer says of the state (R77, R91, R92). -/
theorem of_offer {s : State} {lane : Lane} (h : s.offer = some lane) :
    s.active = true ∧ s.link.gapSensed = true ∧ s.link.sending = none ∧
      (s.control.station = .running ∨ s.control.station = .departing ∨
        (s.control.station = .joining ∧
          (s.link.lanesOpen = true ∨ (lane = .roll ∧ ∃ f, s.link.lanes.roll = some f ∧ f.kind = .join)))) := by
  unfold State.offer at h
  split at h
  · next hguard =>
    simp only [Bool.and_eq_true, Option.isNone_iff_eq_none] at hguard
    obtain ⟨⟨hactive, hgap⟩, hsending⟩ := hguard
    refine ⟨hactive, hgap, hsending, ?_⟩
    split at h
    · next hst => exact .inl hst
    · next hst => exact .inr (.inl hst)
    · next hst =>
      refine .inr (.inr ⟨hst, ?_⟩)
      split at h
      · next hopen => exact .inl hopen
      · split at h
        · next hroll =>
          cases h
          cases hf : s.link.lanes.roll with
          | none => simp [hf] at hroll
          | some f => exact .inr ⟨rfl, f, rfl, by simpa [hf] using hroll⟩
        · cases h
    · cases h
  · cases h

theorem within_startHead (lane : Lane) (l : Lanes) : l.within (startHead lane l) := by
  have hplain (e : RepairEntry) : (startRepair e).plain = e.plain := by
    unfold startRepair RepairEntry.plain
    cases hw : e.work <;> simp
  cases lane with
  | report =>
    exact ⟨subperm_of_eq (map_onHead (f := fun m => { m with again := false, attempt := m.failed + 1 }) (fun _ => rfl) l.report),
      .refl _, .refl _⟩
  | operator =>
    exact ⟨.refl _,
      subperm_of_eq (map_onHead (f := fun e => { e with inTransmission := true, attempt := e.failed + 1 }) (fun _ => rfl) l.operator),
      .refl _⟩
  | repair => exact ⟨.refl _, .refl _, subperm_of_eq (map_onHead hplain l.repair)⟩
  | roll => exact l.within_refl

/-- What the start of an attempt does: nothing, or the head of the lane offered goes on the medium (R87). -/
theorem startAttempt_cases (s : State) :
    startAttempt s = s ∨ ∃ n lane p, s.me = some n ∧ s.offer = some lane ∧ s.headPayload lane = some p ∧
      startAttempt s = s.withLink
        { s.link with lanes := startHead lane s.link.lanes, sending := some ⟨lane, ⟨n, p⟩⟩, objecting := false } := by
  unfold startAttempt
  split
  · next n lane hme hoffer =>
    split
    · next p hp => exact .inr ⟨n, lane, p, hme, hoffer, hp, rfl⟩
    · exact .inl rfl
  · exact .inl rfl

end Sys2Proof.Machine

/-! PROOFS. The laws of the Link Controller along a step (R65, R77, R90, R92, R93). -/

namespace Sys2Proof.Machine

theorem laneLaw_empty : laneLaw .empty := by simp [laneLaw, Lanes.empty]

theorem linkInv_atReset {s : State} (h : s.link = .atReset) : s.linkInv := by
  refine ⟨by rw [h]; exact laneLaw_empty, by rw [runLaw, h]; decide, ?_, fun _ => h⟩
  intro a ha
  rw [h] at ha
  cases ha

/-- The laws speak of the Link Controller, the station state and the reset alone. -/
theorem linkInv_of_same {s t : State} (h : s.linkInv) (hl : t.link = s.link) (hst : t.control.station = s.control.station)
    (hr : t.control.inReset = s.control.inReset) : t.linkInv := by
  obtain ⟨hlanes, hrun, hsend, hquiet⟩ := h
  have hactive : t.active = s.active := by simp only [State.active, hst, hr]
  refine ⟨hl ▸ hlanes, by rw [runLaw, hl]; exact hrun, ?_, ?_⟩
  · intro a ha
    rw [hactive, hst, hl]
    exact hsend a (hl ▸ ha)
  · intro hq
    rw [hl]
    exact hquiet (hactive ▸ hq)

theorem linkInv_of_frame {s t : State} (h : s.linkInv) (hl : t.link = s.link) (hc : t.control = s.control) : t.linkInv :=
  linkInv_of_same h hl (by rw [hc]) (by rw [hc])

/-- A running link with lawful lanes, nothing new on the medium and the count below 16. -/
theorem linkInv_of_lawful {s t : State} (h : s.linkInv) (hc : t.control = s.control) (ha : s.active = true)
    (hlanes : laneLaw t.link.lanes) (hs : t.link.sending = s.link.sending ∨ t.link.sending = none)
    (ho : t.link.lanesOpen = s.link.lanesOpen ∨ t.link.lanesOpen = true)
    (hr : t.link.undeliveredRun ≤ s.link.undeliveredRun ∨ t.link.undeliveredRun < isolationLimit) : t.linkInv := by
  obtain ⟨_, hrun, hsend, _⟩ := h
  have hactive : t.active = true := (active_of_control hc).trans ha
  refine ⟨hlanes, hr.elim (fun hle => Nat.lt_of_le_of_lt hle hrun) id, ?_, fun hq => absurd hq (by simp [hactive])⟩
  intro a hmem
  obtain hs | hs := hs <;> rw [hs] at hmem
  · obtain ⟨_, hst⟩ := hsend a hmem
    rw [hc]
    refine ⟨hactive, hst.imp_right (Or.imp_right fun ⟨hj, hopen⟩ => ⟨hj, ?_⟩)⟩
    obtain ho | ho := ho
    · rwa [ho]
    · exact .inl ho
  · cases hmem

/-- The REPORT lane alone moves. -/
theorem linkInv_of_marksMore {s t : State} (h : s.linkInv) (hc : t.control = s.control) (ha : s.active = true)
    (hl : s.link.marksMore t.link) : t.linkInv := by
  obtain ⟨marks, heq, hnodup⟩ := hl
  have hlanes := (laneLaw_iff _).mp h.1
  refine linkInv_of_lawful h hc ha ?_ (.inl (by rw [heq])) (.inl (by rw [heq])) (.inl (by rw [heq]))
  rw [heq, laneLaw_iff]
  exact ⟨hnodup hlanes.1, hlanes.2⟩

/-- The REPAIR lane alone moves. -/
theorem linkInv_of_repairLane {s t : State} {lane : List RepairEntry} (h : s.linkInv) (hc : t.control = s.control)
    (ha : s.active = true) (hl : t.link = { s.link with lanes := { s.link.lanes with repair := lane } })
    (hkinds : kindLaw (s.link.lanes.repair.map RepairEntry.isDump) → kindLaw (lane.map RepairEntry.isDump)) : t.linkInv := by
  obtain ⟨hreport, hoperator, hrepair⟩ := (laneLaw_iff _).mp h.1
  refine linkInv_of_lawful h hc ha ?_ (.inl (by rw [hl])) (.inl (by rw [hl])) (.inl (by rw [hl]))
  rw [hl, laneLaw_iff]
  exact ⟨hreport, hoperator, hkinds hrepair⟩

/-- Nothing is on the medium and the lanes are empty. -/
theorem linkInv_of_emptied {t : State} (ha : t.active = true) (hlanes : t.link.lanes = .empty) (hs : t.link.sending = none)
    (hr : t.link.undeliveredRun = 0) : t.linkInv := by
  refine ⟨hlanes ▸ laneLaw_empty, by rw [runLaw, hr]; decide, fun a hmem => ?_, fun hq => absurd hq (by simp [ha])⟩
  rw [hs] at hmem
  cases hmem

/-- What an entry into a silent state leaves of the Link Controller (R99). -/
theorem enterSilent_link (o : Orders) (st : StationState) (s : State) :
    (enterSilent o st s).link.lanes = .empty ∧ (enterSilent o st s).link.sending = none ∧
      (enterSilent o st s).link.undeliveredRun = 0 := by
  rw [enterSilent, emptyLanes_link]
  exact ⟨rfl, rfl, rfl⟩

theorem linkInv_enterSilent {o : Orders} {st : StationState} {s : State} (ha : s.active = true) (hst : st.silent = true) :
    (enterSilent o st s).linkInv := by
  obtain ⟨hlanes, hsending, hrun⟩ := enterSilent_link o st s
  exact linkInv_of_emptied (active_enterSilent ha hst) hlanes hsending hrun

theorem not_active_of_station {s : State} (h : s.control.station.active = false) : s.active = false := by
  simp [State.active, h]

/-- Before the setup takes effect the Link Controller is as after reset (R77). -/
theorem link_atReset_of_station {s : State} (h : s.linkInv) (hst : s.control.station.active = false) : s.link = .atReset :=
  h.2.2.2 (not_active_of_station hst)

/-- Outside JOINING, RUNNING and DEPARTING nothing is on the medium (R92). -/
theorem sending_none {s : State} (h : sendLaw s)
    (hst : s.control.station = .listening ∨ s.control.station = .isolated ∨ s.control.station = .departed) :
    s.link.sending = none := by
  cases hs : s.link.sending with
  | none => rfl
  | some a =>
    obtain ⟨_, hsend⟩ := h a hs
    grind

theorem placeLeave_within (onAir : Bool) (l : Lanes) : l.within (placeLeave onAir l) := by
  unfold placeLeave
  split
  · exact l.within_refl
  · split <;> exact l.within_refl

/-- The attempt of a station whose lanes are not open is its JOIN (R92). -/
theorem isJoin_of_headPayload {s : State} {f : RollFrame} {p : Payload} (hroll : s.link.lanes.roll = some f)
    (hf : f.kind = .join) (hp : s.headPayload .roll = some p) : p.isJoin = true := by
  simp only [State.headPayload, hroll, hf, Option.map_some, Option.some.injEq] at hp
  rw [← hp]
  rfl

theorem linkInv_startAttempt {s : State} (h : s.linkInv) : (startAttempt s).linkInv := by
  obtain heq | ⟨n, lane, p, _, hoffer, hp, heq⟩ := startAttempt_cases s
  · rwa [heq]
  · obtain ⟨hactive, _, _, hst⟩ := of_offer hoffer
    obtain ⟨hlanes, hrun, _, _⟩ := h
    rw [heq]
    refine ⟨laneLaw_of_within (within_startHead lane _) hlanes, hrun, ?_, fun hq => absurd (hactive.symm.trans hq) (by simp)⟩
    rintro a ⟨⟩
    refine ⟨hactive, hst.imp_right (Or.imp_right fun ⟨hj, hopen⟩ => ⟨hj, hopen.imp_right ?_⟩)⟩
    rintro ⟨rfl, f, hroll, hf⟩
    exact isJoin_of_headPayload hroll hf hp

theorem linkInv_joinCore {c : JoinCause} {s : State} (h : s.linkInv) (ha : s.active = true)
    (hst : s.control.station = .listening ∨ s.control.station = .isolated ∨ s.control.station = .departed) :
    (joinCore c s).linkInv := by
  have hlink : (joinCore c s).link =
      { s.link with lanesOpen := false, lanes := { s.link.lanes with roll := some (freshRoll .join), leaveOwed := false } } := by
    simp [joinCore]
  obtain ⟨hlanes, hrun, hsend, _⟩ := h
  refine ⟨by rw [hlink]; exact hlanes, by rw [runLaw, hlink]; exact hrun, ?_, ?_⟩
  · intro a hmem
    rw [hlink, sending_none hsend hst] at hmem
    cases hmem
  · exact fun hq => absurd hq (by simp [active_joinCore ha])

theorem linkInv_enterRunning {s : State} (h : s.linkInv) (ha : s.active = true) : (enterRunning s).linkInv := by
  have hactive : (enterRunning s).active = true := by
    simp [State.active, enterRunning, inReset_of_active ha, StationState.active]
  obtain ⟨hlanes, hrun, _, _⟩ := h
  refine ⟨by simpa using hlanes, by simpa [runLaw] using hrun, ?_, fun hq => absurd hq (by simp [hactive])⟩
  exact fun _ _ => ⟨hactive, .inl rfl⟩

theorem linkInv_enterDeparting {s : State} (h : s.linkInv) (ha : s.active = true) : (enterDeparting s).linkInv := by
  have hactive : (enterDeparting s).active = true := by
    simp [State.active, enterDeparting, inReset_of_active ha, StationState.active]
  have hlink : ∃ onAir, (enterDeparting s).link = { s.link with lanes := placeLeave onAir s.link.lanes } :=
    ⟨_, by simp [enterDeparting]; rfl⟩
  obtain ⟨onAir, hlink⟩ := hlink
  obtain ⟨hlanes, hrun, _, _⟩ := h
  refine ⟨?_, by rw [runLaw, hlink]; exact hrun, ?_, fun hq => absurd hq (by simp [hactive])⟩
  · rw [hlink]
    exact laneLaw_of_within (placeLeave_within onAir _) hlanes
  · exact fun _ _ => ⟨hactive, .inr (.inl rfl)⟩

theorem linkInv_pressItems {a : Action} {s : State} (h : s.linkInv) (ha : s.active = true) : (pressItems a s).linkInv := by
  have howned : (takeOwnItems a (snapshot s.ann.scope a s.table) s).linkInv :=
    linkInv_of_marksMore h (by simp) ha (takeOwnItems_marksMore a _ s)
  obtain ⟨lane, hl, hroom⟩ := placeGroups_link a (snapshot s.ann.scope a s.table) (takeOwnItems a (snapshot s.ann.scope a s.table) s)
  obtain ⟨hreport, hoperator, hrepair⟩ := (laneLaw_iff _).mp howned.1
  refine linkInv_of_lawful howned (by simp [pressItems]) ?_ ?_ (.inl ?_) (.inl ?_) (.inl ?_)
  · rw [active_of_control (takeOwnItems_control ..), ha]
  · rw [pressItems, hl, laneLaw_iff]
    exact ⟨hreport, hroom hoperator, hrepair⟩
  all_goals rw [pressItems, hl]

/-- Where the setup takes effect, or Station Control stops or stores instead, the Link Controller is as after reset. -/
theorem linkInv_of_quiet {s t : State} (h : s.linkInv) (hst : s.control.station.active = false) (hl : t.link = s.link) :
    t.linkInv := linkInv_atReset (hl.trans (link_atReset_of_station h hst))

/-- Each act keeps the laws of the Link Controller. -/
theorem act_keeps_linkInv {s t : State} (hact : Act s t) (h : s.linkInv) : t.linkInv := by
  cases hact
  case aside ha =>
    obtain ⟨⟨hst, _, hr, _, _⟩, _, _, _, hl, _⟩ := ha
    exact linkInv_of_same h hl hst hr
  case tick => exact linkInv_of_same h rfl rfl rfl
  case timers => exact linkInv_of_same h rfl rfl rfl
  case qualify i ha => exact linkInv_of_marksMore h (by simp) ha (qualificationExpiry_marksMore i s)
  case table => exact linkInv_of_frame h (by simp) (by simp)
  case item a i ha => exact linkInv_of_marksMore h (by simp) ha (takeItem_marksMore a s i)
  case health =>
    cases ha : s.active with
    | false => rwa [healthSync_not_active ha]
    | true => exact linkInv_of_marksMore h (by simp) ha (healthSync_marksMore s)
  case repair => exact linkInv_of_same h rfl rfl rfl
  case member => exact linkInv_of_same h rfl rfl rfl
  case link l ha hw hrun => exact linkInv_of_lawful h rfl ha (laneLaw_of_within hw.1 h.1) hw.2.1 hw.2.2 hrun
  case dumpMark =>
    unfold requestDump
    split
    · next htakes =>
      rw [State.lanesTake, Bool.and_eq_true] at htakes
      exact linkInv_of_repairLane h rfl htakes.1 rfl kindLaw_requestDumpMark
    · exact h
  case request n _ =>
    unfold requestOwner
    split
    · next htakes =>
      rw [State.lanesTake, Bool.and_eq_true] at htakes
      exact linkInv_of_repairLane h rfl htakes.1 rfl kindLaw_requestOwnerIn
    · exact h
  case withdraw n ha => exact linkInv_of_repairLane h rfl ha rfl kindLaw_withdrawIn
  case start => exact linkInv_startAttempt h
  case press a ha => exact linkInv_pressItems h ha
  case silent o st ha hst => exact linkInv_enterSilent ha hst
  case isolate o l ha _ => exact linkInv_enterSilent (by rw [active_of_control (causeMoment_control ..)]; exact ha) rfl
  case join c ha hst => exact linkInv_joinCore h ha hst
  case run ha _ => exact linkInv_enterRunning h ha
  case depart ha _ => exact linkInv_enterDeparting h ha
  case unconfigured hst => exact linkInv_of_quiet h (by rw [hst]; rfl) rfl
  case setup _ hst _ => exact linkInv_of_quiet h (by rw [hst]; rfl) rfl
  case stored _ hst _ => exact linkInv_of_quiet h (by rw [hst]; rfl) rfl
  case storedUnconfigured hst => exact linkInv_of_quiet h (by rw [hst]; rfl) rfl
  case accept hst _ => exact linkInv_of_quiet h (by rw [hst]; rfl) rfl
  case reset => exact linkInv_atReset rfl
  case leaveReset straps hr =>
    rw [Sys2Proof.Machine.leaveReset, if_pos hr]
    exact linkInv_atReset rfl

/-- Settles O53. -/
theorem everyStepKeepsLinkLaws : Obligations.EveryStepKeepsLinkLaws :=
  step_keeps (fun _ _ => act_keeps_linkInv) fun _ _ => id

end Sys2Proof.Machine

/-! PROOFS. The laws of the Alarm Table (R34, R51, R54, R55): each of its primitive changes keeps them, and so does every change of
03_the_alarm_table.md. -/

namespace Sys2Proof.Machine

/-! ### The primitive changes -/

/-- A predicate on tables that the primitive changes of the Alarm Table keep. -/
structure TableKeeps (me : Option StationNo) (P : AlarmTable → Prop) : Prop where
  remove : ∀ (c : Condition) (ch : Change), P ch.table → P (removeEntry me c ch).table
  rewrite : ∀ (e : Entry) (f : Entry → Entry) (ch : Change), (∀ x, (f x).condition = x.condition) → e ∈ ch.table.entries →
    P ch.table → P (rewriteEntry e f ch).table
  create : ∀ (give : Bool) (src : StationNo) (r : PointReport) (st : EntryState) (ch : Change),
    ch.table.find ⟨src, r.point⟩ = none → P ch.table → P (createEntry me give src r st ch).table
  give : ∀ (e : Entry) (ch : Change), e ∈ ch.table.entries → P ch.table → P (giveSlotTo e.group e.condition ch).table
  empty : ∀ (q : Condition → Bool) (t : AlarmTable), P t → P { t with slots := t.slots.map (fun h => if h.any q then none else h) }
  stale : ∀ (b : Bool) (n : StationNo) (t : AlarmTable), P t → P { t with entries := staleAs b n t.entries }

theorem mem_of_find {t : AlarmTable} {c : Condition} {e : Entry} (h : t.find c = some e) : e ∈ t.entries :=
  List.mem_of_find?_eq_some h

theorem condition_of_find {t : AlarmTable} {c : Condition} {e : Entry} (h : t.find c = some e) : e.condition = c := by
  simpa using List.find?_some (show t.entries.find? (fun e => e.condition == c) = some e from h)

section
variable {me : Option StationNo} {P : AlarmTable → Prop} (hP : TableKeeps me P)
include hP

theorem TableKeeps.contents (give : Bool) (src : StationNo) (r : PointReport) (ch : Change) (h : P ch.table) :
    P (applyContents me give src r ch).table := by
  unfold applyContents
  split
  · exact hP.remove _ ch h
  · next st _ =>
    split
    · next e he =>
      unfold updateEntry
      split
      · exact h
      · exact hP.rewrite e _ ch (fun _ => rfl) (mem_of_find he) h
    · next hnone => exact hP.create give src r st ch hnone h

theorem TableKeeps.removeAll (cs : List Condition) (ch : Change) (h : P ch.table) : P (removeAll me cs ch).table := by
  induction cs generalizing ch with
  | nil => exact h
  | cons c rest ih => exact ih _ (hP.remove c ch h)

theorem TableKeeps.removeOwner (n : StationNo) (ch : Change) (h : P ch.table) : P (removeOwner me n ch).table :=
  hP.empty (fun c => c.owner == n) _ (hP.removeAll _ ch h)

theorem TableKeeps.dumpApply (src : StationNo) (records : List DumpRecord) (ch : Change) (h : P ch.table) :
    P (dumpApply me src records ch).table := by
  unfold Machine.dumpApply
  induction records generalizing ch with
  | nil => exact h
  | cons r rest ih => exact ih _ (hP.contents false src _ ch h)

theorem TableKeeps.dumpAlign (src : StationNo) (records : List DumpRecord) (ch : Change) (h : P ch.table) :
    P (dumpAlign src records ch).table := by
  unfold Machine.dumpAlign
  induction records generalizing ch with
  | nil => exact h
  | cons r rest ih =>
    refine ih _ ?_
    unfold alignRecord
    split
    · next e he =>
      split
      · exact h
      · exact hP.rewrite e _ ch (fun _ => rfl) (mem_of_find he) h
    · exact h

theorem TableKeeps.dumpGive (src : StationNo) (records : List DumpRecord) (ch : Change) (h : P ch.table) :
    P (dumpGive src records ch).table := by
  unfold Machine.dumpGive
  induction records generalizing ch with
  | nil => exact h
  | cons r rest ih =>
    refine ih _ ?_
    dsimp only
    split
    · split
      · next e he => exact condition_of_find he ▸ hP.give e ch (mem_of_find he) h
      · exact h
    · exact h

theorem TableKeeps.applyDump (src : StationNo) (records : List DumpRecord) (ch : Change) (h : P ch.table) :
    P (applyDump me src records ch).table :=
  hP.stale false src _ (hP.empty (listedClear src records) _ (hP.dumpGive src records _ (hP.dumpAlign src records _
    (hP.removeAll _ _ (hP.dumpApply src records ch h)))))

/-- Every change of the Alarm Table keeps what the primitive ones keep. -/
theorem TableKeeps.act {f : Change → Change} (hf : TableAct me f) (ch : Change) (h : P ch.table) : P (f ch).table := by
  cases hf with
  | stale b n => exact hP.stale b n _ h
  | contents give n r => exact hP.contents give n r ch h
  | dump n records => exact hP.applyDump n records ch h
  | owner n => exact hP.removeOwner n ch h

end

/-! ### One entry for each condition, and the places (R34) -/

/-- The shared occupancy depends on the conditions alone. -/
theorem occupancy_eq (me : Option StationNo) (es : List Entry) :
    occupancy me es = ((es.map Entry.condition).filter (fun c => some c.owner != me)).length := by
  rw [occupancy, List.filter_map, List.length_map]
  rfl

theorem occupancy_congr {me : Option StationNo} {es fs : List Entry} (h : es.map Entry.condition = fs.map Entry.condition) :
    occupancy me es = occupancy me fs := by
  rw [occupancy_eq, occupancy_eq, h]

theorem occupancy_append_single (me : Option StationNo) (es : List Entry) (e : Entry) :
    occupancy me (es ++ [e]) = occupancy me es + if some e.owner = me then 0 else 1 := by
  simp only [occupancy, List.filter_append, List.length_append]
  by_cases h : some e.owner = me <;> simp [h]

theorem occupancy_sublist {me : Option StationNo} {es fs : List Entry} (h : es.Sublist fs) : occupancy me es ≤ occupancy me fs :=
  (h.filter _).length_le

/-- With one entry for each condition, the 17 own places suffice (R34). -/
theorem ownOccupancy_le {me : Option StationNo} {es : List Entry} (h : (es.map Entry.condition).Nodup) :
    ownOccupancy me es ≤ 17 := by
  have hpoints : ((es.filter (fun e => some e.owner == me)).map Entry.point).Nodup := by
    refine (List.nodup_map_iff_inj_on ((List.Nodup.of_map _ h).filter _)).mpr fun x hx y hy hxy => ?_
    rw [List.mem_filter, beq_iff_eq] at hx hy
    have hown : x.owner = y.owner := Option.some.inj (hx.2.trans hy.2.symm)
    exact List.inj_on_of_nodup_map h hx.1 hy.1 (by rw [Entry.condition, Entry.condition, hown, hxy])
  have := hpoints.length_le_card
  simpa [ownOccupancy] using this

theorem tableLaw_iff (me : Option StationNo) (t : AlarmTable) :
    tableLaw me t ↔ (t.entries.map Entry.condition).Nodup ∧ occupancy me t.entries ≤ sharedPlaces :=
  ⟨fun h => ⟨h.1, h.2.2⟩, fun h => ⟨h.1, ownOccupancy_le h.1, h.2⟩⟩

theorem tableLaw_congr {me : Option StationNo} {t u : AlarmTable}
    (h : u.entries.map Entry.condition = t.entries.map Entry.condition) : tableLaw me t → tableLaw me u := by
  rw [tableLaw_iff, tableLaw_iff, h, occupancy_congr h]
  exact id

/-- The created entry, where it is not dropped (R39, R54). -/
theorem createEntry_cases (me : Option StationNo) (give : Bool) (src : StationNo) (r : PointReport) (st : EntryState) (ch : Change) :
    ((some src ≠ me ∧ sharedPlaces ≤ occupancy me ch.table.entries) ∧ createEntry me give src r st ch = dropEntry ch) ∨
      (¬(some src ≠ me ∧ sharedPlaces ≤ occupancy me ch.table.entries) ∧
        (createEntry me give src r st ch).table =
          { ch.table with
            entries := ch.table.entries ++ [newEntry src r st],
            slots :=
              if give = true ∧ r.foEligible = true ∧ ch.table.slots[r.group] = none then
                ch.table.slots.set r.group (some ⟨src, r.point⟩)
              else ch.table.slots }) := by
  unfold createEntry
  split
  · next h => exact .inl ⟨h, rfl⟩
  · next h =>
    refine .inr ⟨h, ?_⟩
    simp only [Bool.and_eq_true, decide_eq_true_eq, and_assoc]

theorem giveSlotTo_table (g : GroupNo) (c : Condition) (ch : Change) :
    (giveSlotTo g c ch).table = { ch.table with slots := ch.table.slots.set g (some c) } := by
  unfold giveSlotTo
  split
  · next h =>
    have hset : ch.table.slots.set g (some c) = ch.table.slots := by
      ext i hi : 1
      rw [Vector.getElem_set]
      split
      · next hg =>
        subst hg
        exact h.symm
      · rfl
    rw [hset]
  · rfl

theorem tableLaw_create {me : Option StationNo} {give : Bool} {src : StationNo} {r : PointReport} {st : EntryState} {ch : Change}
    (hnone : ch.table.find ⟨src, r.point⟩ = none) (h : tableLaw me ch.table) :
    tableLaw me (createEntry me give src r st ch).table := by
  obtain ⟨_, heq⟩ | ⟨hroom, heq⟩ := createEntry_cases me give src r st ch
  · rw [heq]
    exact h
  · rw [tableLaw_iff] at h ⊢
    obtain ⟨hnodup, hshared⟩ := h
    rw [heq]
    dsimp only
    constructor
    · rw [List.map_append, List.nodup_append]
      refine ⟨hnodup, by simp, ?_⟩
      rw [find_eq_none_iff] at hnone
      intro c hc d hd
      obtain ⟨e, he, rfl⟩ := List.mem_map.mp hc
      rw [List.map_singleton, List.mem_singleton] at hd
      rw [hd]
      exact hnone e he
    · rw [occupancy_append_single]
      split
      · exact hshared
      · next hremote =>
        by_contra hover
        exact hroom ⟨hremote, by omega⟩

/-- R34 is kept by every primitive change. -/
theorem tableKeeps_tableLaw (me : Option StationNo) : TableKeeps me (tableLaw me) where
  remove c ch h := by
    rw [tableLaw_iff] at h ⊢
    rw [removeEntry_entries]
    have hsub : (ch.table.entries.filter (fun e => e.condition != c)).Sublist ch.table.entries := List.filter_sublist
    exact ⟨h.1.sublist (hsub.map _), (occupancy_sublist hsub).trans h.2⟩
  rewrite e f ch hf _ h := tableLaw_congr (rewriteEntry_conditions e f ch hf) h
  create _ _ _ _ _ hnone h := tableLaw_create hnone h
  give _ _ _ h := by
    rw [giveSlotTo_table]
    exact h
  empty _ _ h := h
  stale b n t h := tableLaw_congr (conditions_staleAs b n t.entries) h

/-! ### The slots and OVERFLOW (R51, R54, R55) -/

/-- The laws of a table together. -/
def lawful (me : Option StationNo) (t : AlarmTable) : Prop := tableLaw me t ∧ slotLaw t ∧ overflowLaw me t

/-- R51, in words: a named condition is an entry of the slot's group. -/
theorem slotLaw_iff (t : AlarmTable) :
    slotLaw t ↔ ∀ (g : GroupNo) (c : Condition), t.slots[g] = some c → ∃ e ∈ t.entries, e.condition = c ∧ e.group = g := by
  refine forall_congr' fun g => ?_
  cases h : t.slots[g] with
  | none => simp
  | some c => simp

/-- With one entry for each condition, an entry is known by its condition. -/
theorem entry_unique {me : Option StationNo} {t : AlarmTable} (h : tableLaw me t) {e x : Entry} (he : e ∈ t.entries)
    (hx : x ∈ t.entries) (hc : x.condition = e.condition) : x = e := List.inj_on_of_nodup_map h.1 hx he hc

theorem slots_set_get (slots : Vector (Option Condition) 8) (g k : GroupNo) (x : Option Condition) :
    (slots.set g x)[k] = if k = g then x else slots[k] := vector_get_set slots g k x

theorem slots_map_get (slots : Vector (Option Condition) 8) (f : Option Condition → Option Condition) (g : GroupNo) :
    (slots.map f)[g] = f slots[g] := by
  simp only [Fin.getElem_fin, Vector.getElem_map]

theorem removeEntry_table_of_find {me : Option StationNo} {c : Condition} {ch : Change} {e : Entry} (h : ch.table.find c = some e) :
    (removeEntry me c ch).table =
      { ch.table with
        entries := ch.table.entries.filter (fun x => x.condition != c), slots := slotsWithout ch.table.slots c,
        overflow := ch.table.overflow &&
          decide (overflowClearsAt < occupancy me (ch.table.entries.filter (fun x => x.condition != c))),
        tableOverflow := ch.table.tableOverflow &&
          decide (overflowClearsAt < occupancy me (ch.table.entries.filter (fun x => x.condition != c))) } := by
  simp only [removeEntry, h]

theorem removeEntry_of_none {me : Option StationNo} {c : Condition} {ch : Change} (h : ch.table.find c = none) :
    removeEntry me c ch = ch := by
  simp only [removeEntry, h]

theorem lawful_remove {me : Option StationNo} {c : Condition} {ch : Change} (h : lawful me ch.table) :
    lawful me (removeEntry me c ch).table := by
  refine ⟨(tableKeeps_tableLaw me).remove c ch h.1, ?_⟩
  obtain ⟨_, hslot, hsame, hover⟩ := h
  cases hfind : ch.table.find c with
  | none =>
    rw [removeEntry_of_none hfind]
    exact ⟨hslot, hsame, hover⟩
  | some e =>
    rw [removeEntry_table_of_find hfind]
    refine ⟨?_, by simp only [hsame], fun hset => ?_⟩
    · rw [slotLaw_iff] at hslot ⊢
      intro g d hd
      rw [slotsWithout, slots_map_get] at hd
      split at hd
      · cases hd
      · next hne =>
        obtain ⟨x, hx, hxc, hxg⟩ := hslot g d hd
        refine ⟨x, List.mem_filter.mpr ⟨hx, ?_⟩, hxc, hxg⟩
        rw [hxc, bne_iff_ne]
        rintro rfl
        exact hne hd
    · simp only [Bool.and_eq_true, decide_eq_true_eq] at hset
      exact hset.2

theorem mem_rewriteEntry {e x : Entry} {f : Entry → Entry} {ch : Change} (hx : x ∈ ch.table.entries) (hc : x.condition ≠ e.condition) :
    x ∈ (rewriteEntry e f ch).table.entries := List.mem_map.mpr ⟨x, hx, if_neg hc⟩

theorem mem_rewriteEntry_self {e : Entry} {f : Entry → Entry} {ch : Change} (he : e ∈ ch.table.entries) :
    f e ∈ (rewriteEntry e f ch).table.entries := List.mem_map.mpr ⟨e, he, if_pos rfl⟩

theorem rewriteEntry_slots (e : Entry) (f : Entry → Entry) (ch : Change) :
    (rewriteEntry e f ch).table.slots =
      if (f e).group ≠ e.group ∧ ch.table.slots[e.group] = some e.condition then ch.table.slots.set e.group none
      else ch.table.slots := by
  simp only [rewriteEntry, decide_eq_true_eq]

theorem lawful_rewrite {me : Option StationNo} {e : Entry} {f : Entry → Entry} {ch : Change}
    (hf : ∀ x, (f x).condition = x.condition) (he : e ∈ ch.table.entries) (h : lawful me ch.table) :
    lawful me (rewriteEntry e f ch).table := by
  refine ⟨(tableKeeps_tableLaw me).rewrite e f ch hf he h.1, ?_⟩
  obtain ⟨htable, hslot, hsame, hover⟩ := h
  refine ⟨?_, hsame, fun hset => ?_⟩
  · rw [slotLaw_iff] at hslot ⊢
    intro g d hd
    rw [rewriteEntry_slots] at hd
    have hbefore : ch.table.slots[g] = some d := by
      split at hd
      · rw [slots_set_get] at hd
        split at hd
        · cases hd
        · exact hd
      · exact hd
    obtain ⟨x, hx, rfl, rfl⟩ := hslot g d hbefore
    by_cases hcond : x.condition = e.condition
    · obtain rfl := entry_unique htable he hx hcond
      refine ⟨f x, mem_rewriteEntry_self hx, hf x, ?_⟩
      by_contra hmoved
      rw [if_pos ⟨hmoved, hbefore⟩, slots_set_get, if_pos rfl] at hd
      cases hd
    · exact ⟨x, mem_rewriteEntry hx hcond, rfl, rfl⟩
  · rw [occupancy_congr (rewriteEntry_conditions e f ch hf)]
    exact hover hset

theorem lawful_create {me : Option StationNo} {give : Bool} {src : StationNo} {r : PointReport} {st : EntryState} {ch : Change}
    (hnone : ch.table.find ⟨src, r.point⟩ = none) (h : lawful me ch.table) :
    lawful me (createEntry me give src r st ch).table := by
  refine ⟨(tableKeeps_tableLaw me).create give src r st ch hnone h.1, ?_⟩
  obtain ⟨_, hslot, hsame, hover⟩ := h
  obtain ⟨⟨_, hfull⟩, heq⟩ | ⟨_, heq⟩ := createEntry_cases me give src r st ch
  · rw [heq]
    refine ⟨hslot, rfl, fun _ => ?_⟩
    have hplaces : overflowClearsAt < sharedPlaces := by decide
    exact Nat.lt_of_lt_of_le hplaces hfull
  · rw [heq]
    refine ⟨?_, hsame, fun hset => ?_⟩
    · rw [slotLaw_iff] at hslot ⊢
      intro g d hd
      have hheld (hd : ch.table.slots[g] = some d) :
          ∃ e ∈ ch.table.entries ++ [newEntry src r st], e.condition = d ∧ e.group = g := by
        obtain ⟨x, hx, hxc, hxg⟩ := hslot g d hd
        exact ⟨x, List.mem_append_left _ hx, hxc, hxg⟩
      split at hd
      · rw [slots_set_get] at hd
        split at hd
        · next hg =>
          cases hd
          exact ⟨newEntry src r st, by simp, rfl, hg.symm⟩
        · exact hheld hd
      · exact hheld hd
    · rw [occupancy_append_single]
      exact Nat.lt_of_lt_of_le (hover hset) (Nat.le_add_right _ _)

theorem lawful_give {me : Option StationNo} {e : Entry} {ch : Change} (he : e ∈ ch.table.entries) (h : lawful me ch.table) :
    lawful me (giveSlotTo e.group e.condition ch).table := by
  rw [giveSlotTo_table]
  obtain ⟨htable, hslot, hflags⟩ := h
  refine ⟨htable, ?_, hflags⟩
  rw [slotLaw_iff] at hslot ⊢
  intro g d hd
  rw [slots_set_get] at hd
  split at hd
  · next hg =>
    cases hd
    exact ⟨e, he, rfl, hg.symm⟩
  · exact hslot g d hd

theorem lawful_empty {me : Option StationNo} {t : AlarmTable} (q : Condition → Bool) (h : lawful me t) :
    lawful me { t with slots := t.slots.map (fun h => if h.any q then none else h) } := by
  obtain ⟨htable, hslot, hflags⟩ := h
  refine ⟨htable, ?_, hflags⟩
  rw [slotLaw_iff] at hslot ⊢
  intro g d hd
  rw [slots_map_get] at hd
  split at hd
  · cases hd
  · exact hslot g d hd

theorem lawful_stale {me : Option StationNo} {t : AlarmTable} (b : Bool) (n : StationNo) (h : lawful me t) :
    lawful me { t with entries := staleAs b n t.entries } := by
  refine ⟨(tableKeeps_tableLaw me).stale b n t h.1, ?_⟩
  obtain ⟨_, hslot, hsame, hover⟩ := h
  refine ⟨?_, hsame, fun hset => ?_⟩
  · rw [slotLaw_iff] at hslot ⊢
    intro g d hd
    obtain ⟨x, hx, hxc, hxg⟩ := hslot g d hd
    refine ⟨_, List.mem_map.mpr ⟨x, hx, rfl⟩, ?_⟩
    split
    · exact ⟨hxc, hxg⟩
    · exact ⟨hxc, hxg⟩
  · rw [occupancy_congr (conditions_staleAs b n t.entries)]
    exact hover hset

/-- R34, R51, R54 and R55 are kept together by every primitive change. -/
theorem tableKeeps_lawful (me : Option StationNo) : TableKeeps me (lawful me) where
  remove _ _ h := lawful_remove h
  rewrite _ _ _ hf he h := lawful_rewrite hf he h
  create _ _ _ _ _ hnone h := lawful_create hnone h
  give _ _ he h := lawful_give he h
  empty q _ h := lawful_empty q h
  stale b n _ h := lawful_stale b n h

end Sys2Proof.Machine

/-! PROOFS. The laws of the Alarm Table, the horn latch and the health cause monitor along a step (R17, R34, R51, R55, R159). -/

namespace Sys2Proof.Machine

theorem tableInv_iff (s : State) : s.tableInv ↔ lawful s.me s.table ∧ hornLaw s ∧ quietTable s := by
  simp only [State.tableInv, lawful, and_assoc]

/-- The laws speak of the table, the horn latch, the scope, the own number and whether the blocks run. -/
theorem tableInv_of_same {s t : State} (h : s.tableInv) (ht : t.table = s.table) (hs : t.ann.scope = s.ann.scope)
    (hh : t.ann.horn = true → s.ann.horn = true) (hme : t.me = s.me) (ha : t.active = true ∨ t.active = s.active) :
    t.tableInv := by
  rw [tableInv_iff] at h ⊢
  obtain ⟨hlaw, hhorn, hquiet⟩ := h
  refine ⟨by rw [ht, hme]; exact hlaw, ?_, fun hq => ?_⟩
  · intro hset
    rw [ht, hs]
    exact hhorn (hh hset)
  · obtain ha | ha := ha
    · exact absurd (ha.symm.trans hq) (by simp)
    · obtain ⟨htable, hclear⟩ := hquiet (ha ▸ hq)
      exact ⟨ht.trans htable, Bool.eq_false_iff.mpr fun hset => by simp [hh hset] at hclear⟩

theorem tableInv_of_frame {s t : State} (h : s.tableInv) (ht : t.table = s.table) (hann : t.ann = s.ann)
    (hc : t.control = s.control) : t.tableInv :=
  tableInv_of_same h ht (by rw [hann]) (by rw [hann]; exact id) (me_of_control hc) (.inr (active_of_control hc))

theorem lawful_atReset (me : Option StationNo) : lawful me .atReset := by
  refine ⟨?_, ?_, ?_⟩
  · rw [tableLaw_iff]
    exact ⟨by simp [AlarmTable.atReset], by simp [AlarmTable.atReset, occupancy]⟩
  · rw [slotLaw_iff]
    intro g c h
    simp [AlarmTable.atReset] at h
  · exact ⟨rfl, fun h => by simp [AlarmTable.atReset] at h⟩

theorem tableInv_atReset {s : State} (ht : s.table = .atReset) (hh : s.ann.horn = false) : s.tableInv := by
  rw [tableInv_iff, ht]
  exact ⟨lawful_atReset _, fun hset => absurd hset (by simp [hh]), fun _ => ⟨ht, hh⟩⟩

/-- A change of the table keeps its laws, and the latch follows it (R158, R159). -/
theorem tableInv_takeChange {s : State} {f : Change → Change} (ha : s.active = true) (hf : TableAct s.me f) (h : s.tableInv) :
    (takeChange f s).tableInv := by
  rw [tableInv_iff] at h ⊢
  refine ⟨?_, ?_, fun hq => absurd (by rw [active_takeChange, ha]) (show ¬(takeChange f s).active = true by simp [hq])⟩
  · rw [takeChange_table, me_takeChange]
    exact (tableKeeps_lawful s.me).act hf _ h.1
  · intro hset
    rw [takeChange_horn, hornAfter, Bool.and_eq_true] at hset
    rw [takeChange_table, takeChange_ann]
    exact hset.2

/-! ### Hand-overs -/

theorem tableInv_localDeliver {s : State} (p : PointNo) (ha : s.active = true) (h : s.tableInv) :
    (localDeliver p s).tableInv := by
  unfold localDeliver
  split
  · exact tableInv_takeChange ha (.contents false _ _) h
  · exact h

theorem tableInv_handOver {s : State} (p : PointNo) (ha : s.active = true) (h : s.tableInv) : (handOver p s).tableInv := by
  unfold handOver
  split
  · exact tableInv_of_frame h (by simp) (by simp) (by simp)
  · exact tableInv_localDeliver p ha h

theorem tableInv_changePoint {s : State} (p : PointNo) (st : SeqState) (ha : s.active = true) (h : s.tableInv) :
    (changePoint p st s).tableInv :=
  tableInv_handOver p (s := s.setPoint p _) ha (tableInv_of_frame h rfl rfl rfl)

theorem tableInv_fieldEvent {s : State} (p : PointNo) (ev : FieldEvent) (ha : s.active = true) (h : s.tableInv) :
    (fieldEvent p ev s).tableInv := by
  obtain heq | ⟨st, heq⟩ := fieldEvent_cases p ev s <;> rw [heq]
  · exact h
  · exact tableInv_changePoint p st ha h

theorem tableInv_takeItem {s : State} (a : Action) (i : Item) (ha : s.active = true) (h : s.tableInv) :
    (takeItem a s i).tableInv := by
  unfold takeItem
  split
  · exact tableInv_changePoint _ _ ha h
  · exact tableInv_of_frame h rfl rfl rfl

theorem tableInv_items {s : State} (a : Action) (items : List Item) (ha : s.active = true) (h : s.tableInv) :
    (items.foldl (takeItem a) s).tableInv := by
  induction items generalizing s with
  | nil => exact h
  | cons i rest ih => exact ih (by rw [active_of_control (takeItem_control ..), ha]) (tableInv_takeItem a i ha h)

theorem tableInv_qualificationExpiry {s : State} (i : LineNo) (ha : s.active = true) (h : s.tableInv) :
    (qualificationExpiry i s).tableInv := by
  have hset (r : InputRecord) : (s.setInput i r).tableInv := tableInv_of_frame h rfl rfl rfl
  unfold qualificationExpiry
  split
  · unfold raise
    split
    · exact tableInv_fieldEvent _ _ ha (hset _)
    · exact hset _
  · exact h

theorem tableInv_healthSync {s : State} (h : s.tableInv) : (healthSync s).tableInv := by
  unfold healthSync
  split
  · next hguard =>
    rw [Bool.and_eq_true] at hguard
    exact tableInv_fieldEvent 16 _ (s := s.withEngine _) hguard.1 (tableInv_of_frame h rfl rfl rfl)
  · exact h

theorem tableInv_causeMoment {s : State} (o : Orders) (h : s.tableInv) : (causeMoment o s).tableInv := by
  unfold causeMoment
  split
  · exact tableInv_healthSync h
  · exact h

theorem tableInv_takeOwnItems {s : State} (a : Action) (snap : List Entry) (h : s.tableInv) :
    (takeOwnItems a snap s).tableInv := by
  unfold takeOwnItems
  split
  · unfold takeItems
    split
    · next ha => exact tableInv_items _ _ ha h
    · exact h
  · exact h

theorem tableInv_pressItems {s : State} (a : Action) (h : s.tableInv) : (pressItems a s).tableInv := by
  have hplace (field : Annunciation → Bool × BitVec 8) (hf : ∀ (x : Annunciation) (c : Counter), field { x with operatorDropped := c } = field x)
      (snap : List Entry) (t : State) : field (placeGroups a snap t).ann = field t.ann := by
    refine placeGroups_keeps (fun t => field t.ann) (fun a snap s o => ?_) (fun s => hf _ _) a snap t
    unfold placeGroup
    split
    · rfl
    · split
      · rfl
      · exact hf _ _
  have hann := hplace (fun x => (x.horn, x.scope)) (fun _ _ => rfl) (snapshot s.ann.scope a s.table)
    (takeOwnItems a (snapshot s.ann.scope a s.table) s)
  obtain ⟨hhorn, hscope⟩ := Prod.mk.inj hann
  refine tableInv_of_same (tableInv_takeOwnItems a (snapshot s.ann.scope a s.table) h) (by simp [pressItems]) hscope ?_
    (me_of_control (by simp [pressItems])) (.inr (active_of_control (by simp [pressItems])))
  exact fun hset => hhorn.symm.trans hset

theorem tableInv_emptyLanes {s : State} (ha : s.active = true) (h : s.tableInv) : (emptyLanes s).tableInv := by
  unfold emptyLanes
  have hdiscard : (discardLanes s).tableInv := tableInv_of_same h rfl rfl id rfl (.inr rfl)
  have hactive : (discardLanes s).active = true := ha
  generalize discardLanes s = u at hdiscard hactive
  induction s.link.lanes.report generalizing u with
  | nil => exact hdiscard
  | cons m rest ih =>
    exact ih _ (tableInv_localDeliver m.point hactive hdiscard) (by rw [active_of_control (localDeliver_control ..), hactive])

theorem tableInv_enterSilent {s : State} (o : Orders) {st : StationState} (ha : s.active = true) (hst : st.silent = true)
    (h : s.tableInv) : (enterSilent o st s).tableInv := by
  have hentered : (stopPresence ((leaveState s).withStation st)).active = true := by
    simp [State.active, stopPresence, inReset_of_active ha, active_of_silent hst]
  have hkept : (stopPresence ((leaveState s).withStation st)).tableInv :=
    tableInv_of_same h (by simp [stopPresence]) (by simp [stopPresence]) (by simp [stopPresence])
      (by simp [stopPresence, State.me]) (.inl hentered)
  exact tableInv_emptyLanes (by rw [active_of_control (causeMoment_control ..), hentered]) (tableInv_causeMoment o hkept)

/-- Station Control moves outside the seven states, or into them as the setup takes effect; the table is as after reset. -/
theorem tableInv_of_quiet {s t : State} (h : s.tableInv) (hst : s.control.station.active = false) (ht : t.table = s.table)
    (hh : t.ann.horn = s.ann.horn) : t.tableInv := by
  obtain ⟨htable, hhorn⟩ := ((tableInv_iff s).mp h).2.2 (not_active_of_station hst)
  exact tableInv_atReset (ht.trans htable) (hh.trans hhorn)

/-- Each act keeps the laws of the table and the horn latch. -/
theorem act_keeps_tableInv {s t : State} (hact : Act s t) (h : s.tableInv) : t.tableInv := by
  cases hact
  case aside ha =>
    obtain ⟨hstage, _, _, ht, _, _, hs, hh, _, _⟩ := ha
    exact tableInv_of_same h ht hs hh (me_of_sameStage hstage) (.inr (active_of_sameStage hstage))
  case tick => exact tableInv_of_same h rfl rfl id rfl (.inr rfl)
  case qualify i ha => exact tableInv_qualificationExpiry i ha h
  case table ha hf => exact tableInv_takeChange ha hf h
  case item a i ha => exact tableInv_takeItem a i ha h
  case health => exact tableInv_healthSync h
  case press a _ => exact tableInv_pressItems a h
  case silent o st ha hst => exact tableInv_enterSilent o ha hst h
  case isolate o l ha _ =>
    exact tableInv_enterSilent o (by rw [active_of_control (causeMoment_control ..)]; exact ha) rfl
      (tableInv_causeMoment o (s := s.withLink l) (tableInv_of_frame h rfl rfl rfl))
  case join c ha _ =>
    exact tableInv_of_same h (by simp) (by simp) (by simp) (by simp [State.me, joinCore_control]) (.inl (active_joinCore ha))
  case run ha _ =>
    exact tableInv_of_same h (by simp) (by simp) (by simp) (by simp [State.me, enterRunning])
      (.inl (by simp [State.active, enterRunning, inReset_of_active ha, StationState.active]))
  case depart ha _ =>
    exact tableInv_of_same h (by simp) (by simp) (by simp) (by simp [State.me, enterDeparting])
      (.inl (by simp [State.active, enterDeparting, inReset_of_active ha, StationState.active]))
  case unconfigured hst => exact tableInv_of_quiet h (by rw [hst]; rfl) rfl rfl
  case setup _ hst _ => exact tableInv_of_quiet h (by rw [hst]; rfl) rfl rfl
  case stored _ hst _ => exact tableInv_of_quiet h (by rw [hst]; rfl) rfl rfl
  case storedUnconfigured hst => exact tableInv_of_quiet h (by rw [hst]; rfl) rfl rfl
  case accept hst _ => exact tableInv_of_quiet h (by rw [hst]; rfl) rfl rfl
  case reset => exact tableInv_atReset rfl rfl
  case leaveReset straps hr =>
    rw [Sys2Proof.Machine.leaveReset, if_pos hr]
    exact tableInv_atReset rfl rfl
  all_goals exact tableInv_of_frame h (by simp) (by simp) (by simp)

/-! ### The health cause monitor (R17) -/

theorem takeChange_repair_of_overflow {f : Change → Change} {s : State} (h : (f ⟨s.table, []⟩).table.overflow = s.table.overflow) :
    (takeChange f s).repair = s.repair := by
  unfold takeChange
  dsimp only
  rw [h, Bool.and_not_self]
  rfl

/-- On a lawful table the hand-over of an own change moves no cause: it drops no entry and clears no flag (R37, R39, R55). -/
theorem anyCause_handOver {s : State} (p : PointNo) (hlaw : overflowLaw s.me s.table) : (handOver p s).anyCause = s.anyCause := by
  unfold handOver
  split
  · rfl
  · unfold localDeliver
    split
    · next n hme =>
      have happly := applyContents_apartFrom (n := n) (ch := ⟨s.table, []⟩) (s.contents p) (hme ▸ hlaw)
      have hover : (applyContents s.me false n (s.contents p) ⟨s.table, []⟩).table.overflow = s.table.overflow := by
        rw [hme]; injection happly
      have htable : (applyContents s.me false n (s.contents p) ⟨s.table, []⟩).table.tableOverflow = s.table.tableOverflow := by
        rw [hme]; injection happly
      simp only [State.anyCause, State.lampFault, State.repairFailed, takeChange_table, takeChange_link,
        takeChange_repair_of_overflow hover, takeChange_ann, htable]
    · rfl

theorem handOver_healthLevel (p : PointNo) (s : State) : (handOver p s).engine.healthLevel = s.engine.healthLevel := by
  rw [handOver_engine]

/-- After the monitor's look its level is the OR of the causes (R17). -/
theorem healthSync_settled {s : State} (ha : s.active = true) (hlaw : overflowLaw s.me s.table) :
    (healthSync s).anyCause = (healthSync s).engine.healthLevel := by
  unfold healthSync
  split
  · obtain heq | ⟨st, heq⟩ := fieldEvent_cases 16 (if s.anyCause then .assert else .clear)
      (s.withEngine { s.engine with healthLevel := s.anyCause }) <;> rw [heq]
    · rfl
    · rw [changePoint, handOver_healthLevel]
      exact anyCause_handOver 16 (s := (s.withEngine { s.engine with healthLevel := s.anyCause }).setPoint 16 _) hlaw
  · next hguard => simpa [ha] using hguard

theorem anyCause_settle (s : State) (ha : s.active = true) : (settle s).anyCause = s.anyCause :=
  ((causesStand_settle s) (by rw [active_of_control (settle_control s), ha])).2.1

/-- Every command that settles the causes ends with the monitor in step with them. -/
theorem finish_settled_of_lawful {s : State} (hlaw : overflowLaw s.me s.table) (ha : (finish s).active = true) :
    (finish s).anyCause = (finish s).engine.healthLevel := by
  rw [active_finish] at ha
  rw [finish, anyCause_settle _ (by rw [active_healthSync, ha]), settle_engine]
  exact healthSync_settled ha hlaw

theorem exec_keeps_healthInv (c : Instr) (s t : State) (hexec : exec c s = .next t) (h : s.healthInv) : t.healthInv := by
  obtain ⟨htable, hsettled⟩ := h
  refine ⟨(exec_acts hexec).keeps (fun _ _ => act_keeps_tableInv) htable, fun ha => ?_⟩
  cases exec_runs hexec with
  | finished hacts =>
    obtain ⟨⟨_, _, hlaw⟩, _⟩ := (tableInv_iff _).mp (hacts.keeps (fun _ _ => act_keeps_tableInv) htable)
    exact finish_settled_of_lawful hlaw ha
  | stands _ hstands =>
    obtain ⟨hactive, hcause, hlevel⟩ := hstands ha
    rw [hcause, hlevel]
    exact hsettled hactive

/-- Settles O52. -/
theorem everyStepKeepsTableLaws : Obligations.EveryStepKeepsTableLaws :=
  step_keeps_of_exec exec_keeps_healthInv fun _ _ => id

end Sys2Proof.Machine

/-! PROOFS. What the Sequence Engine may do beside the points: changes of the Alarm Table, the end of repairs, and marks in the REPORT
lane. -/

namespace Sys2Proof.Machine

/-- A state after changes of the Alarm Table: what every change keeps is kept, and a read-back of a repair record may become NONE. -/
def State.moves (s t : State) : Prop :=
  t.control = s.control ∧ (∀ P, TableKeeps s.me P → P s.table → P t.table) ∧
    ∀ n, (t.repairOf n).state = (s.repairOf n).state ∨ (t.repairOf n).state = .none

theorem State.moves_of_same {s t : State} (hc : t.control = s.control) (ht : t.table = s.table) (hp : t.repair = s.repair) :
    s.moves t :=
  ⟨hc, fun _ _ h => ht ▸ h, fun n => .inl (by simp only [State.repairOf, hp])⟩

theorem State.moves_refl (s : State) : s.moves s := State.moves_of_same rfl rfl rfl

theorem State.moves_trans {s t u : State} (h : s.moves t) (h' : t.moves u) : s.moves u := by
  obtain ⟨hc, htable, hrepair⟩ := h
  obtain ⟨hc', htable', hrepair'⟩ := h'
  refine ⟨hc'.trans hc, fun P hP hs => htable' P (by rw [me_of_control hc]; exact hP) (htable P hP hs), fun n => ?_⟩
  obtain hsame | hnone := hrepair' n
  · rw [hsame]
    exact hrepair n
  · exact .inr hnone

theorem suspendRepair_get (v : Vector RepairRecord 48) (n : StationNo) :
    (suspendRepair v)[n.index] = if (v[n.index]).state = .requested then RepairRecord.atReset else v[n.index] := by
  simp only [suspendRepair, Fin.getElem_fin, Vector.getElem_map]

/-- R149: a record changes to NONE alone. -/
theorem takeChange_repair_state (f : Change → Change) (s : State) (n : StationNo) :
    ((takeChange f s).repairOf n).state = (s.repairOf n).state ∨ ((takeChange f s).repairOf n).state = .none := by
  unfold takeChange
  dsimp only
  split
  · show ((suspendRepair s.repair)[n.index]).state = _ ∨ ((suspendRepair s.repair)[n.index]).state = _
    rw [suspendRepair_get]
    split
    · exact .inr rfl
    · exact .inl rfl
  · exact .inl rfl

theorem takeChange_moves {f : Change → Change} {s : State} (hf : TableAct s.me f) : s.moves (takeChange f s) := by
  refine ⟨by simp, fun P hP h => ?_, takeChange_repair_state f s⟩
  rw [takeChange_table]
  exact hP.act hf ⟨s.table, []⟩ h

theorem localDeliver_moves (p : PointNo) (s : State) : s.moves (localDeliver p s) := by
  unfold localDeliver
  split
  · exact takeChange_moves (.contents false _ _)
  · exact s.moves_refl

theorem handOver_moves (p : PointNo) (s : State) : s.moves (handOver p s) := by
  unfold handOver
  split
  · exact State.moves_of_same (by simp) (by simp) (by simp)
  · exact localDeliver_moves p s

theorem changePoint_moves (p : PointNo) (st : SeqState) (s : State) : s.moves (changePoint p st s) :=
  handOver_moves p (s.setPoint p { s.point p with state := st, revision := (s.point p).revision + 1#8 })

theorem fieldEvent_moves (p : PointNo) (ev : FieldEvent) (s : State) : s.moves (fieldEvent p ev s) := by
  obtain h | ⟨st, h⟩ := fieldEvent_cases p ev s <;> rw [h]
  · exact s.moves_refl
  · exact changePoint_moves p st s

theorem takeItem_moves (a : Action) (s : State) (i : Item) : s.moves (takeItem a s i) := by
  unfold takeItem
  split
  · exact changePoint_moves _ _ s
  · exact State.moves_of_same rfl rfl rfl

theorem itemsFold_moves (a : Action) (items : List Item) (s : State) : s.moves (items.foldl (takeItem a) s) := by
  induction items generalizing s with
  | nil => exact s.moves_refl
  | cons i rest ih => exact State.moves_trans (takeItem_moves a s i) (ih _)

theorem takeItems_moves (a : Action) (items : List Item) (s : State) : s.moves (takeItems a items s) := by
  unfold takeItems
  split
  · exact itemsFold_moves a items s
  · exact s.moves_refl

theorem qualificationExpiry_moves (i : LineNo) (s : State) : s.moves (qualificationExpiry i s) := by
  unfold qualificationExpiry
  split
  · unfold raise
    split
    · exact fieldEvent_moves _ _ (s.setInput i _)
    · exact State.moves_of_same rfl rfl rfl
  · exact s.moves_refl

theorem healthSync_moves (s : State) : s.moves (healthSync s) := by
  unfold healthSync
  split
  · exact fieldEvent_moves 16 _ (s.withEngine _)
  · exact s.moves_refl

theorem causeMoment_moves (o : Orders) (s : State) : s.moves (causeMoment o s) := by
  unfold causeMoment
  split
  · exact healthSync_moves s
  · exact s.moves_refl

theorem takeOwnItems_moves (a : Action) (snap : List Entry) (s : State) : s.moves (takeOwnItems a snap s) := by
  unfold takeOwnItems
  split
  · exact takeItems_moves _ _ s
  · exact s.moves_refl

theorem emptyLanes_moves (s : State) : s.moves (emptyLanes s) := by
  have hfold (marks : List ReportMark) (u : State) : u.moves (marks.foldl (fun t m => localDeliver m.point t) u) := by
    induction marks generalizing u with
    | nil => exact u.moves_refl
    | cons m rest ih => exact State.moves_trans (localDeliver_moves m.point u) (ih _)
  exact State.moves_trans (State.moves_of_same rfl rfl rfl) (hfold s.link.lanes.report (discardLanes s))

end Sys2Proof.Machine

/-! PROOFS. Every frame the station sends is well formed (R65, R96, R104, R138): each act keeps the lanes' contents lawful. -/

namespace Sys2Proof.Machine

/-! ### What the lanes hold (R65, R96) -/

/-- R65: a group to send is for another station, lists an item and no point twice. -/
def groupLawful (me : Option StationNo) (g : StationNo × List Item) : Prop :=
  me ≠ some g.1 ∧ g.2 ≠ [] ∧ (g.2.map (fun i => i.point)).Nodup

/-- R96: the owners of a request. -/
def ownersLawful (me : Option StationNo) (owners : List StationNo) : Prop :=
  owners ≠ [] ∧ owners.Nodup ∧ ∀ o ∈ owners, me ≠ some o

/-- R96: a request lists lawful owners. -/
def workLawful (me : Option StationNo) (w : RepairWork) : Prop := ∀ owners, w = .request owners → ownersLawful me owners

/-- What the lanes hold is lawful to send. -/
def lanesLawful (me : Option StationNo) (l : Lanes) : Prop :=
  (∀ g ∈ l.operator.map OperatorEntry.sends, groupLawful me g) ∧ ∀ w ∈ l.repair.map RepairEntry.plain, workLawful me w

theorem plain_eq_request (e : RepairEntry) (owners : List StationNo) : e.plain = .request owners ↔ e.work = .request owners := by
  unfold RepairEntry.plain
  cases e.work <;> simp

theorem frameInv_iff (s : State) :
    s.frameInv ↔ tableLaw s.me s.table ∧ lanesLawful s.me s.link.lanes ∧ ownRepairLaw s ∧ sentLaw s := by
  have hoperator : operatorLaw s ↔ ∀ g ∈ s.link.lanes.operator.map OperatorEntry.sends, groupLawful s.me g := by
    rw [List.forall_mem_map]
    rfl
  have hrequest : requestLaw s ↔ ∀ w ∈ s.link.lanes.repair.map RepairEntry.plain, workLawful s.me w := by
    rw [List.forall_mem_map]
    refine forall₂_congr fun e _ => forall_congr' fun owners => ?_
    rw [plain_eq_request]
    rfl
  rw [State.frameInv, hoperator, hrequest, lanesLawful, and_assoc]

theorem lanesLawful_empty (me : Option StationNo) : lanesLawful me .empty := by simp [lanesLawful, Lanes.empty]

theorem lanesLawful_of_within {me : Option StationNo} {k l : Lanes} (h : k.within l) (hk : lanesLawful me k) : lanesLawful me l := by
  obtain ⟨_, hoperator, hrepair⟩ := h
  exact ⟨fun g hg => hk.1 g (hoperator.subset hg), fun w hw => hk.2 w (hrepair.subset hw)⟩

/-! ### The REPAIR lane (R96, R142) -/

theorem requestDumpMark_plain (onAir : Bool) (lane : List RepairEntry) :
    (requestDumpMark onAir lane).map RepairEntry.plain = lane.map RepairEntry.plain ∨
      (requestDumpMark onAir lane).map RepairEntry.plain = lane.map RepairEntry.plain ++ [.dump false] := by
  unfold requestDumpMark
  split
  · refine .inl ?_
    cases lane with
    | nil => rfl
    | cons e rest =>
      dsimp only
      split
      · next he =>
        rw [List.map_cons, List.map_cons]
        congr 1
        cases hw : e.work with
        | dump again => simp [RepairEntry.plain, hw]
        | request owners => simp [RepairEntry.isDump, hw] at he
      · rfl
  · exact .inr (by rw [List.map_append]; rfl)

theorem workLawful_dump (me : Option StationNo) (again : Bool) : workLawful me (.dump again) := by
  intro owners h
  cases h

theorem ownersLawful_single {me : Option StationNo} {o : StationNo} (h : me ≠ some o) : ownersLawful me [o] := by
  simpa [ownersLawful] using h

theorem ownersLawful_append {me : Option StationNo} {o : StationNo} {owners : List StationNo} (h : ownersLawful me owners)
    (ho : me ≠ some o) (hnew : o ∉ owners) : ownersLawful me (owners ++ [o]) := by
  obtain ⟨_, hnodup, hother⟩ := h
  refine ⟨by simp, ?_, ?_⟩
  · rw [List.nodup_append]
    refine ⟨hnodup, by simp, fun a ha b hb => ?_⟩
    rw [List.mem_singleton] at hb
    rintro rfl
    exact hnew (hb ▸ ha)
  · intro p hp
    rw [List.mem_append, List.mem_singleton] at hp
    obtain hp | rfl := hp
    · exact hother p hp
    · exact ho

theorem workLawful_request {me : Option StationNo} {owners : List StationNo} (h : ownersLawful me owners) :
    workLawful me (.request owners) := by
  rintro _ ⟨⟩
  exact h

theorem workLawful_plain_iff {me : Option StationNo} {e : RepairEntry} :
    workLawful me e.plain ↔ ∀ owners, e.work = .request owners → ownersLawful me owners := by
  simp only [workLawful, plain_eq_request]

theorem appendOwner_lawful {me : Option StationNo} {o : StationNo} (ho : me ≠ some o) {lane w : List RepairEntry}
    (h : appendOwner o lane = some w) (hlane : ∀ e ∈ lane, workLawful me e.plain) : ∀ e ∈ w, workLawful me e.plain := by
  induction lane generalizing w with
  | nil => simp [appendOwner] at h
  | cons e rest ih =>
    obtain ⟨hhead, htail⟩ := List.forall_mem_cons.mp hlane
    unfold appendOwner at h
    split at h
    · next os hw =>
      cases h
      refine List.forall_mem_cons.mpr ⟨?_, htail⟩
      split
      · exact hhead
      · next hnew =>
        exact workLawful_request (ownersLawful_append (workLawful_plain_iff.mp hhead os hw) ho (by simpa using hnew))
    · obtain ⟨w', hw', rfl⟩ := Option.map_eq_some_iff.mp h
      exact List.forall_mem_cons.mpr ⟨hhead, ih hw' htail⟩

theorem requestOwnerIn_lawful {me : Option StationNo} {onAir : Bool} {o : StationNo} (ho : me ≠ some o) {lane : List RepairEntry}
    (hlane : ∀ e ∈ lane, workLawful me e.plain) : ∀ e ∈ requestOwnerIn onAir o lane, workLawful me e.plain := by
  have hmedium : ∀ e ∈ (if onAir then lane.take 1 else []), workLawful me e.plain := by
    split
    · exact fun e he => hlane e (List.mem_of_mem_take he)
    · simp
  have hwaiting : ∀ e ∈ (if onAir then lane.drop 1 else lane), workLawful me e.plain := by
    split
    · exact fun e he => hlane e (List.mem_of_mem_drop he)
    · exact hlane
  unfold requestOwnerIn
  dsimp only
  split
  · next w hw => exact List.forall_mem_append.mpr ⟨hmedium, appendOwner_lawful ho hw hwaiting⟩
  · split
    · refine List.forall_mem_append.mpr ⟨hlane, fun e he => ?_⟩
      rw [List.mem_singleton] at he
      subst he
      exact workLawful_request (ownersLawful_single ho)
    · exact hlane

theorem withdrawFrom_lawful {me : Option StationNo} {o : StationNo} {e e' : RepairEntry} (h : withdrawFrom o e = some e')
    (he : workLawful me e.plain) : workLawful me e'.plain := by
  unfold withdrawFrom at h
  split at h
  · cases h
    exact he
  · next os hw =>
    obtain ⟨_, hnodup, hother⟩ := workLawful_plain_iff.mp he os hw
    split at h
    · split at h
      · cases h
      · next hleft =>
        cases h
        refine workLawful_request ⟨by simpa using hleft, hnodup.filter _, fun p hp => hother p (List.mem_of_mem_filter hp)⟩
    · cases h
      exact he

theorem withdrawIn_lawful {me : Option StationNo} {onAir : Bool} {o : StationNo} {lane : List RepairEntry}
    (hlane : ∀ e ∈ lane, workLawful me e.plain) : ∀ e ∈ withdrawIn onAir o lane, workLawful me e.plain := by
  unfold withdrawIn
  dsimp only
  refine List.forall_mem_append.mpr ⟨?_, ?_⟩
  · split
    · exact fun e he => hlane e (List.mem_of_mem_take he)
    · simp
  · intro e' he'
    obtain ⟨e, he, heq⟩ := List.mem_filterMap.mp he'
    refine withdrawFrom_lawful heq (hlane e ?_)
    split at he
    · exact List.mem_of_mem_drop he
    · exact he

/-! ### The OPERATOR lane (R61, R65, R66) -/

theorem mem_firsts {o : StationNo} {l : List StationNo} (h : o ∈ firsts l) : o ∈ l := by
  suffices hfold : ∀ seen : List StationNo,
      o ∈ l.foldl (fun seen o => if seen.contains o then seen else seen ++ [o]) seen → o ∈ seen ∨ o ∈ l by
    simpa using hfold [] h
  clear h
  induction l with
  | nil => exact fun seen hmem => .inl hmem
  | cons x rest ih =>
    intro seen hmem
    obtain hseen | hrest := ih _ hmem
    · dsimp only at hseen
      split at hseen
      · exact .inl hseen
      · rw [List.mem_append, List.mem_singleton] at hseen
        obtain hseen | rfl := hseen
        · exact .inl hseen
        · exact .inr List.mem_cons_self
    · exact .inr (List.mem_cons_of_mem _ hrest)

theorem of_mem_remoteOwners {me : Option StationNo} {snap : List Entry} {o : StationNo} (h : o ∈ remoteOwners me snap) :
    me ≠ some o ∧ ∃ e ∈ snap, e.owner = o := by
  obtain ⟨hmem, hother⟩ := List.mem_filter.mp (mem_firsts h)
  exact ⟨fun hme => by simp [hme] at hother, List.mem_map.mp hmem⟩

/-- The group of a remote owner, taken from a table with one entry for each condition (R34, R65). -/
theorem itemsFor_lawful {me : Option StationNo} {t : AlarmTable} {scope : BitVec 8} {a : Action} {o : StationNo} (ht : tableLaw me t)
    (ho : o ∈ remoteOwners me (snapshot scope a t)) : groupLawful me (o, itemsFor o (snapshot scope a t)) := by
  obtain ⟨hme, e, he, heo⟩ := of_mem_remoteOwners ho
  refine ⟨hme, fun hnil => ?_, ?_⟩
  · have hmem : e.item ∈ itemsFor o (snapshot scope a t) :=
      List.mem_map.mpr ⟨e, List.mem_filter.mpr ⟨he, by simpa using heo⟩, rfl⟩
    rw [show itemsFor o (snapshot scope a t) = [] from hnil] at hmem
    cases hmem
  · have hsub : ((snapshot scope a t).filter (fun e => e.owner == o)).Sublist t.entries :=
      (List.filter_sublist).trans List.filter_sublist
    show ((itemsFor o (snapshot scope a t)).map (fun i => i.point)).Nodup
    rw [itemsFor, List.map_map]
    refine (List.nodup_map_iff_inj_on (((List.Nodup.of_map _ ht.1).sublist hsub))).mpr fun x hx y hy hxy => ?_
    have hxo : x.owner = o := by simpa using List.of_mem_filter hx
    have hyo : y.owner = o := by simpa using List.of_mem_filter hy
    have hxy : x.point = y.point := hxy
    exact List.inj_on_of_nodup_map ht.1 (hsub.subset hx) (hsub.subset hy)
      (by rw [Entry.condition, Entry.condition, hxo, hyo, hxy])

/-- R66: a merged item leaves one item for each point. -/
theorem mergeItem_lawful {items : List Item} {i : Item} (h : (items.map (fun x => x.point)).Nodup) :
    mergeItem items i ≠ [] ∧ ((mergeItem items i).map (fun x => x.point)).Nodup := by
  unfold mergeItem
  split
  · next hheld =>
    have hpoints : (items.map (fun x => if x.point = i.point then i else x)).map (fun x => x.point) = items.map (fun x => x.point) := by
      rw [List.map_map]
      refine List.map_congr_left fun x _ => ?_
      dsimp only [Function.comp_apply]
      split
      · next hx => exact hx.symm
      · rfl
    refine ⟨?_, by rwa [hpoints]⟩
    rintro hnil
    rw [List.map_eq_nil_iff] at hnil
    simp [hnil] at hheld
  · next hnew =>
    refine ⟨by simp, ?_⟩
    rw [List.map_append, List.nodup_append]
    refine ⟨h, by simp, ?_⟩
    simpa using hnew

theorem mergeItems_lawful {items more : List Item} (hne : items ≠ []) (h : (items.map (fun x => x.point)).Nodup) :
    more.foldl mergeItem items ≠ [] ∧ ((more.foldl mergeItem items).map (fun x => x.point)).Nodup := by
  induction more generalizing items with
  | nil => exact ⟨hne, h⟩
  | cons i rest ih =>
    obtain ⟨hne', h'⟩ := mergeItem_lawful (i := i) h
    exact ih hne' h'

theorem mergeInto_lawful {me : Option StationNo} {o : StationNo} {a : Action} {items : List Item} {lane l : List OperatorEntry}
    (h : mergeInto o a items lane = some l) (hlane : ∀ e ∈ lane, groupLawful me e.sends) : ∀ e ∈ l, groupLawful me e.sends := by
  induction lane generalizing l with
  | nil => simp [mergeInto] at h
  | cons e rest ih =>
    obtain ⟨hhead, htail⟩ := List.forall_mem_cons.mp hlane
    unfold mergeInto at h
    split at h
    · cases h
      obtain ⟨htarget, hne, hnodup⟩ := hhead
      exact List.forall_mem_cons.mpr ⟨⟨htarget, mergeItems_lawful hne hnodup⟩, htail⟩
    · obtain ⟨l', hl', rfl⟩ := Option.map_eq_some_iff.mp h
      exact List.forall_mem_cons.mpr ⟨hhead, ih hl' htail⟩

theorem placeGroup_lawful {me : Option StationNo} {a : Action} {snap : List Entry} {s : State} {o : StationNo}
    (hgroup : groupLawful me (o, itemsFor o snap)) (h : lanesLawful me s.link.lanes) :
    lanesLawful me (placeGroup a snap s o).link.lanes := by
  obtain ⟨hoperator, hrepair⟩ := h
  rw [List.forall_mem_map] at hoperator
  unfold placeGroup
  split
  · next lane hlane => exact ⟨List.forall_mem_map.mpr (mergeInto_lawful hlane hoperator), hrepair⟩
  · split
    · refine ⟨List.forall_mem_map.mpr (List.forall_mem_append.mpr ⟨hoperator, fun e he => ?_⟩), hrepair⟩
      rw [List.mem_singleton] at he
      subst he
      exact hgroup
    · exact ⟨List.forall_mem_map.mpr hoperator, hrepair⟩

theorem placeGroups_lawful {me : Option StationNo} {a : Action} {snap : List Entry} {s : State}
    (hgroups : ∀ o ∈ remoteOwners s.me snap, groupLawful me (o, itemsFor o snap)) (h : lanesLawful me s.link.lanes) :
    lanesLawful me (placeGroups a snap s).link.lanes := by
  unfold placeGroups
  generalize remoteOwners s.me snap = owners at hgroups
  induction owners generalizing s with
  | nil => exact h
  | cons o rest ih =>
    obtain ⟨hgroup, hrest⟩ := List.forall_mem_cons.mp hgroups
    refine ih ?_ hrest
    dsimp only
    split
    · exact h
    · exact placeGroup_lawful hgroup h

/-! ### The frame of an attempt (R104) -/

/-- A list of distinct points has 17 members at most. -/
theorem length_le_of_points {l : List PointNo} (h : l.Nodup) : l.length ≤ 17 := by simpa using h.length_le_card

/-- R107: 47 stations at most are other than the source. -/
theorem owners_length_le {n : StationNo} {owners : List StationNo} (hnodup : owners.Nodup) (hother : n ∉ owners) :
    owners.length ≤ 47 := by
  have hplaces : ((n :: owners).map StationNo.index).Nodup :=
    (List.nodup_cons.mpr ⟨hother, hnodup⟩).map fun _ _ => index_inj
  have := hplaces.length_le_card
  simp only [List.length_map, List.length_cons, Fintype.card_fin] at this
  omega

theorem ownersWellFormed_of_lawful {n : StationNo} {owners : List StationNo} (h : ownersLawful (some n) owners) :
    ownersWellFormed n owners = true := by
  obtain ⟨hne, hnodup, hother⟩ := h
  have hn : n ∉ owners := fun hmem => hother n hmem rfl
  have hpos := List.length_pos_iff.mpr hne
  have hmany := owners_length_le hnodup hn
  simp only [ownersWellFormed, Bool.and_eq_true, decide_eq_true_eq, Bool.not_eq_true', List.contains_eq_mem, decide_eq_false_iff_not]
  exact ⟨⟨⟨hpos, hmany⟩, hn⟩, hnodup⟩

theorem operatorWellFormed_of_lawful {n : StationNo} {e : OperatorEntry} (h : groupLawful (some n) e.sends) :
    OperatorBody.wellFormed n ⟨e.target, e.action, e.items⟩ = true := by
  obtain ⟨htarget, hne, hnodup⟩ := h
  have htarget : e.target ≠ n := fun heq => htarget (congrArg some heq.symm)
  have hpos : 1 ≤ e.items.length := List.length_pos_iff.mpr hne
  have hmany : e.items.length ≤ 17 := by simpa [OperatorEntry.sends] using length_le_of_points hnodup
  simp only [OperatorBody.wellFormed, Bool.and_eq_true, decide_eq_true_eq, bne_iff_ne]
  exact ⟨⟨htarget, hpos⟩, hmany⟩

theorem pointsRise_of_pairwise {l : List DumpRecord} (h : l.Pairwise (fun a b => a.point < b.point)) : pointsRise l = true := by
  induction l with
  | nil => rfl
  | cons a rest ih =>
    obtain ⟨hhead, htail⟩ := List.pairwise_cons.mp h
    cases rest with
    | nil => rfl
    | cons b rest =>
      simp only [pointsRise, Bool.and_eq_true, decide_eq_true_eq]
      exact ⟨hhead b List.mem_cons_self, ih htail⟩

theorem dumpRecord_point {s : State} {p : PointNo} {r : DumpRecord} (h : s.dumpRecord? p = some r) : r.point = p := by
  unfold State.dumpRecord? at h
  split at h
  · cases h
  · cases h
    rfl

/-- R16: the records are in rising point order. -/
theorem dumpBody_records_rise (s : State) : s.dumpBody.records.Pairwise (fun a b => a.point < b.point) := by
  refine List.Pairwise.filterMap s.dumpRecord? (fun p q hpq r hr r' hr' => ?_) (List.pairwise_lt_finRange 17)
  rw [dumpRecord_point hr, dumpRecord_point hr']
  exact hpq

theorem dumpBody_wellFormed (s : State) : s.dumpBody.wellFormed = true := by
  have hlen : s.dumpBody.records.length ≤ 17 := by
    simpa [State.dumpBody] using List.length_filterMap_le s.dumpRecord? (List.finRange 17)
  simp only [DumpBody.wellFormed, Bool.and_eq_true, decide_eq_true_eq]
  exact ⟨hlen, pointsRise_of_pairwise (dumpBody_records_rise s)⟩

/-- R104: the head of a lane is sent within the ranges of R105 to R111. -/
theorem headPayload_wellFormed {s : State} {n : StationNo} {lane : Lane} {p : Payload} (h : lanesLawful (some n) s.link.lanes)
    (hp : s.headPayload lane = some p) : Frame.wellFormed ⟨n, p⟩ = true := by
  obtain ⟨hoperator, hrepair⟩ := h
  cases lane with
  | report =>
    obtain ⟨m, _, rfl⟩ := Option.map_eq_some_iff.mp hp
    rfl
  | operator =>
    obtain ⟨e, he, rfl⟩ := Option.map_eq_some_iff.mp hp
    exact operatorWellFormed_of_lawful (hoperator _ (List.mem_map_of_mem (List.mem_of_mem_head? he)))
  | repair =>
    obtain ⟨e, he, rfl⟩ := Option.map_eq_some_iff.mp hp
    split
    · exact dumpBody_wellFormed s
    · next os hw =>
      have hlawful := workLawful_plain_iff.mp (hrepair _ (List.mem_map_of_mem (List.mem_of_mem_head? he)))
      exact ownersWellFormed_of_lawful (hlawful os hw)
  | roll =>
    obtain ⟨f, _, rfl⟩ := Option.map_eq_some_iff.mp hp
    split <;> rfl

end Sys2Proof.Machine

/-! PROOFS. What keeps every sent frame well formed, along a step (R65, R96, R104, R138). -/

namespace Sys2Proof.Machine

/-- The invariant is kept where the table's law and the lanes' are, nothing new is on the medium and the own record stays NONE. -/
theorem frameInv_of_lawful {s t : State} (h : s.frameInv) (hme : t.me = s.me)
    (ht : tableLaw s.me s.table → tableLaw s.me t.table)
    (hl : tableLaw s.me s.table → lanesLawful s.me s.link.lanes → lanesLawful s.me t.link.lanes)
    (hs : t.link.sending = s.link.sending ∨ t.link.sending = none)
    (hr : ∀ n, s.me = some n → (t.repairOf n).state = (s.repairOf n).state ∨ (t.repairOf n).state = .none) : t.frameInv := by
  rw [frameInv_iff] at h ⊢
  obtain ⟨htable, hlanes, hown, hsent⟩ := h
  rw [hme]
  refine ⟨ht htable, hl htable hlanes, fun n hn => ?_, fun a ha => ?_⟩
  · rw [hme] at hn
    exact (hr n hn).elim (fun hsame => hsame.trans (hown n hn)) id
  · rw [hme]
    obtain hs | hs := hs <;> rw [hs] at ha
    · exact hsent a ha
    · cases ha

theorem frameInv_of_same {s t : State} (h : s.frameInv) (hme : t.me = s.me) (ht : t.table = s.table) (hl : t.link = s.link)
    (hp : t.repair = s.repair) : t.frameInv :=
  frameInv_of_lawful h hme (ht ▸ id) (fun _ => hl ▸ id) (.inl (by rw [hl])) fun n _ => .inl (by simp only [State.repairOf, hp])

theorem frameInv_of_frame {s t : State} (h : s.frameInv) (hc : t.control = s.control) (ht : t.table = s.table)
    (hl : t.link = s.link) (hp : t.repair = s.repair) : t.frameInv := frameInv_of_same h (me_of_control hc) ht hl hp

/-- Changes of the table and marks in the REPORT lane keep the invariant. -/
theorem frameInv_of_moves {s t : State} (h : s.frameInv) (hm : s.moves t) (hl : s.link.marksMore t.link) : t.frameInv := by
  obtain ⟨hc, htable, hrepair⟩ := hm
  obtain ⟨marks, heq, _⟩ := hl
  exact frameInv_of_lawful h (me_of_control hc) (htable _ (tableKeeps_tableLaw s.me)) (by rw [heq]; exact fun _ => id)
    (.inl (by rw [heq])) fun n _ => hrepair n

theorem frameInv_of_lanes {s t : State} {l : Lanes} (h : s.frameInv) (hc : t.control = s.control) (ht : t.table = s.table)
    (hp : t.repair = s.repair) (hl : t.link = { s.link with lanes := l })
    (hlanes : lanesLawful s.me s.link.lanes → lanesLawful s.me l) : t.frameInv :=
  frameInv_of_lawful h (me_of_control hc) (ht ▸ id) (by rw [hl]; exact fun _ => hlanes) (.inl (by rw [hl])) fun n _ =>
    .inl (by simp only [State.repairOf, hp])

theorem tableLaw_atReset (me : Option StationNo) : tableLaw me .atReset := (lawful_atReset me).1

theorem repairOf_replicate_reset (n : StationNo) : (repairNone[n.index]).state = .none := by
  simp [repairNone, RepairRecord.atReset]

/-- After a reset the lanes are empty and no repair is under way. -/
theorem frameInv_atReset {t : State} (ht : t.table = .atReset) (hl : t.link = .atReset) (hp : t.repair = repairNone) :
    t.frameInv := by
  rw [frameInv_iff]
  refine ⟨by rw [ht]; exact tableLaw_atReset _, by rw [hl]; exact lanesLawful_empty _, fun n _ => ?_, fun a ha => ?_⟩
  · rw [State.repairOf, hp]
    exact repairOf_replicate_reset n
  · rw [hl] at ha
    cases ha

theorem leaveState_repair_state (s : State) (n : StationNo) :
    ((leaveState s).repairOf n).state = (s.repairOf n).state ∨ ((leaveState s).repairOf n).state = .none := by
  unfold leaveState
  split
  · exact .inr (repairOf_replicate_reset n)
  all_goals exact .inl rfl

/-- An entry into a silent state moves the table, ends repairs at most and leaves the lanes empty (R99). -/
theorem frameInv_enterSilent {o : Orders} {st : StationState} {s : State} (h : s.frameInv) : (enterSilent o st s).frameInv := by
  obtain ⟨hlanes, hsending, _⟩ := enterSilent_link o st s
  obtain ⟨hc, htable, hrepair⟩ :=
    State.moves_trans (causeMoment_moves o (stopPresence ((leaveState s).withStation st))) (emptyLanes_moves _)
  have hme : (stopPresence ((leaveState s).withStation st)).me = s.me := by simp [State.me, stopPresence]
  refine frameInv_of_lawful h (enterSilent_me o st s) ?_ (fun _ _ => by rw [hlanes]; exact lanesLawful_empty _) (.inr hsending) ?_
  · have hbefore : (stopPresence ((leaveState s).withStation st)).table = s.table := by simp [stopPresence]
    rw [hme, hbefore] at htable
    exact htable _ (tableKeeps_tableLaw s.me)
  · intro n _
    have hbefore : (stopPresence ((leaveState s).withStation st)).repairOf n = (leaveState s).repairOf n := rfl
    obtain hsame | hnone := hrepair n
    · rw [hbefore] at hsame
      exact hsame ▸ leaveState_repair_state s n
    · exact .inr hnone

/-- An attempt's frame is well formed and has this station as its source (R104). -/
theorem frameInv_startAttempt {s : State} (h : s.frameInv) : (startAttempt s).frameInv := by
  obtain heq | ⟨n, lane, p, hme, _, hp, heq⟩ := startAttempt_cases s
  · rwa [heq]
  · rw [heq]
    rw [frameInv_iff] at h ⊢
    obtain ⟨htable, hlanes, hown, _⟩ := h
    refine ⟨htable, lanesLawful_of_within (within_startHead lane _) hlanes, hown, ?_⟩
    rintro a ⟨⟩
    exact ⟨hme, headPayload_wellFormed (hme ▸ hlanes) hp⟩

theorem frameInv_pressItems {a : Action} {s : State} (h : s.frameInv) : (pressItems a s).frameInv := by
  have howned : (takeOwnItems a (snapshot s.ann.scope a s.table) s).frameInv :=
    frameInv_of_moves h (takeOwnItems_moves a _ s) (takeOwnItems_marksMore a _ s)
  have hme : (takeOwnItems a (snapshot s.ann.scope a s.table) s).me = s.me := me_of_control (by simp)
  have htable : tableLaw s.me s.table := ((frameInv_iff s).mp h).1
  obtain ⟨lane, hl, _⟩ := placeGroups_link a (snapshot s.ann.scope a s.table) (takeOwnItems a (snapshot s.ann.scope a s.table) s)
  refine frameInv_of_lanes howned (by simp [pressItems]) (by simp [pressItems]) (by simp [pressItems]) hl fun hlanes => ?_
  have hplaced := placeGroups_lawful (a := a) (snap := snapshot s.ann.scope a s.table)
    (fun o ho => itemsFor_lawful htable (hme ▸ ho)) (hme ▸ hlanes)
  rw [hl] at hplaced
  exact hme ▸ hplaced

theorem lanesLawful_of_repair {me : Option StationNo} {l : Lanes} {lane : List RepairEntry} (h : lanesLawful me l)
    (hlane : ∀ e ∈ lane, workLawful me e.plain) : lanesLawful me { l with repair := lane } :=
  ⟨h.1, List.forall_mem_map.mpr hlane⟩

/-- Each act keeps the invariant. -/
theorem act_keeps_frameInv {s t : State} (hact : Act s t) (h : s.frameInv) : t.frameInv := by
  cases hact
  case aside ha =>
    obtain ⟨hstage, _, _, ht, hl, hp, _, _, _, _⟩ := ha
    exact frameInv_of_same h (me_of_sameStage hstage) ht hl hp
  case tick => exact frameInv_of_lawful h rfl id (fun _ => id) (.inl rfl) fun n _ => .inl (by simp [State.repairOf, tickTimers])
  case qualify i _ => exact frameInv_of_moves h (qualificationExpiry_moves i s) (qualificationExpiry_marksMore i s)
  case table f _ hf => exact frameInv_of_moves h (takeChange_moves hf) (by rw [takeChange_link]; exact s.link.marksMore_refl)
  case item a i _ => exact frameInv_of_moves h (takeItem_moves a s i) (takeItem_marksMore a s i)
  case health => exact frameInv_of_moves h (healthSync_moves s) (healthSync_marksMore s)
  case repair v hv =>
    have hown := ((frameInv_iff s).mp h).2.2.1
    refine frameInv_of_lawful h rfl id (fun _ => id) (.inl rfl) fun n hn => ?_
    obtain hsame | hnone | hother | hrequested := hv n
    · exact .inl hsame
    · exact .inr hnone
    · exact absurd hn hother
    · exact absurd (hown n hn) (by rw [hrequested]; decide)
  case link l _ hw _ =>
    exact frameInv_of_lawful h rfl id (fun _ => lanesLawful_of_within hw.1) hw.2.1 fun _ _ => .inl rfl
  case dumpMark =>
    unfold requestDump
    split
    · refine frameInv_of_lanes h rfl rfl rfl rfl fun hlanes => ⟨hlanes.1, fun w hw => ?_⟩
      obtain heq | heq := requestDumpMark_plain (s.onAir .repair) s.link.lanes.repair <;> rw [heq] at hw
      · exact hlanes.2 w hw
      · rw [List.mem_append, List.mem_singleton] at hw
        obtain hw | rfl := hw
        · exact hlanes.2 w hw
        · exact workLawful_dump _ _
    · exact h
  case request n hn =>
    have hown := ((frameInv_iff s).mp h).2.2.1
    have hother : s.me ≠ some n := fun hme => absurd (hown n hme) (by rw [hn]; decide)
    unfold requestOwner
    split
    · exact frameInv_of_lanes h rfl rfl rfl rfl fun hlanes =>
        lanesLawful_of_repair hlanes (requestOwnerIn_lawful hother (List.forall_mem_map.mp hlanes.2))
    · exact h
  case withdraw n _ =>
    exact frameInv_of_lanes h rfl rfl rfl rfl fun hlanes =>
      lanesLawful_of_repair hlanes (withdrawIn_lawful (List.forall_mem_map.mp hlanes.2))
  case start => exact frameInv_startAttempt h
  case press => exact frameInv_pressItems h
  case silent => exact frameInv_enterSilent h
  case isolate o l _ hw =>
    refine frameInv_enterSilent (frameInv_of_moves (s := s.withLink l) ?_ (causeMoment_moves o _) ?_)
    · exact frameInv_of_lawful h rfl id (fun _ => lanesLawful_of_within hw.1) hw.2.1 fun _ _ => .inl rfl
    · unfold causeMoment
      split
      · exact healthSync_marksMore _
      · exact LinkController.marksMore_refl _
  case join c _ _ =>
    have hlink : (joinCore c s).link =
        { s.link with lanesOpen := false, lanes := { s.link.lanes with roll := some (freshRoll .join), leaveOwed := false } } := by
      simp [joinCore]
    exact frameInv_of_lawful h (by simp [State.me, joinCore_control]) (by simp) (by rw [hlink]; exact fun _ => id)
      (.inl (by rw [hlink])) fun n _ => leaveState_repair_state s n
  case run =>
    exact frameInv_of_lawful h (by simp [State.me, enterRunning]) (by simp) (by simp) (.inl (by simp)) fun n _ =>
      leaveState_repair_state s n
  case depart =>
    have hlink : ∃ onAir, (enterDeparting s).link = { s.link with lanes := placeLeave onAir s.link.lanes } :=
      ⟨_, by simp [enterDeparting]; rfl⟩
    obtain ⟨onAir, hlink⟩ := hlink
    exact frameInv_of_lawful h (by simp [State.me, enterDeparting]) (by simp)
      (by rw [hlink]; exact fun _ => lanesLawful_of_within (placeLeave_within onAir _)) (.inl (by rw [hlink])) fun n _ =>
      leaveState_repair_state s n
  case unconfigured => exact frameInv_of_same h rfl rfl rfl rfl
  case setup => exact frameInv_of_same h rfl rfl rfl rfl
  case stored => exact frameInv_of_same h rfl rfl rfl rfl
  case storedUnconfigured => exact frameInv_of_same h rfl rfl rfl rfl
  case accept => exact frameInv_of_same h rfl rfl rfl rfl
  case reset => exact frameInv_atReset rfl rfl rfl
  case leaveReset straps hr =>
    rw [Sys2Proof.Machine.leaveReset, if_pos hr]
    exact frameInv_atReset rfl rfl rfl
  all_goals exact frameInv_of_frame h (by simp) (by simp) (by simp) (by simp)

/-- Settles O54. -/
theorem everyStepKeepsSentFramesGood : Obligations.EveryStepKeepsSentFramesGood :=
  step_keeps (fun _ _ => act_keeps_frameInv) fun _ _ => id

end Sys2Proof.Machine

/-! PROOFS. The laws of the points (R2, R4, R10, R18, R24): the two tables of moves keep them. -/

namespace Sys2Proof.Machine

/-! ### One point, one line -/

/-- R4: the states a point may take, by its sensitivity and its group's options. -/
def stateAllowed (opt : GroupOptions) (sensitivity : Sensitivity) (st : SeqState) : Prop :=
  (sensitivity = .momentary → st ≠ .alert ∧ st ≠ .acked) ∧ (opt.lockIn = false → st ≠ .unackCleared) ∧
    (opt.ringback = false → st ≠ .ringback)

/-- R2, R4, R10: the law of one point record. -/
def pointLaw (opt : GroupOptions) (r : PointRecord) : Prop :=
  stateAllowed opt r.sensitivity r.state ∧ (r.enabled = false → r.state = .normal ∧ r.revision = 0#8) ∧
    (r.enabled = true → r.sensitivity = .momentary → opt.lockIn = true)

/-- R4, R20, R24: the law of an input and the point it serves. -/
def lineLaw (r : InputRecord) (p : PointRecord) : Prop :=
  (r.enabled = p.enabled ∧ r.sensitivity = p.sensitivity) ∧
    (r.enabled = true → r.sensitivity = .maintained → r.qualified = p.state.asserted)

/-- The law of every point record. -/
def State.pointsLaw (s : State) : Prop := ∀ p : PointNo, pointLaw (s.groupOptions (s.point p).group) (s.point p)

/-- The law of every input. -/
def State.linesLaw (s : State) : Prop := ∀ i : LineNo, lineLaw (s.input i) (s.point (linePoint i))

theorem sequenceInv_iff (s : State) :
    s.sequenceInv ↔ s.pointsLaw ∧ s.linesLaw ∧ healthLaw s ∧ storeLaw s ∧ quietEngine s := by
  have hpoints : s.pointsLaw ↔ sequenceLaw s ∧ disabledLaw s ∧ momentaryLaw s := by
    simp only [State.pointsLaw, pointLaw, stateAllowed, sequenceLaw, disabledLaw, momentaryLaw, forall_and]
  have hlines : s.linesLaw ↔ configLaw s ∧ levelLaw s := by
    simp only [State.linesLaw, lineLaw, configLaw, levelLaw, forall_and]
  rw [State.sequenceInv, hpoints, hlines]
  tauto

/-- Whether two records stand for the same field: enabled, sensitivity and assertion. -/
def PointRecord.sameField (r r' : PointRecord) : Prop :=
  r'.enabled = r.enabled ∧ r'.sensitivity = r.sensitivity ∧ r'.state.asserted = r.state.asserted

theorem PointRecord.sameField_refl (r : PointRecord) : r.sameField r := ⟨rfl, rfl, rfl⟩

theorem PointRecord.sameField_trans {r r' r'' : PointRecord} (h : r.sameField r') (h' : r'.sameField r'') : r.sameField r'' :=
  ⟨h'.1.trans h.1, h'.2.1.trans h.2.1, h'.2.2.trans h.2.2⟩

theorem lineLaw_congr {r : InputRecord} {p p' : PointRecord} (h : lineLaw r p) (hp : p.sameField p') : lineLaw r p' := by
  obtain ⟨henabled, hsens, hasserted⟩ := hp
  rw [lineLaw, henabled, hsens, hasserted]
  exact h

/-- A point not in NORMAL is enabled (R10). -/
theorem enabled_of_state {opt : GroupOptions} {r : PointRecord} (h : pointLaw opt r) (hst : r.state ≠ .normal) : r.enabled = true := by
  by_contra hdisabled
  exact hst (h.2.1 (by simpa using hdisabled)).1

/-- The record a change leaves of an enabled point. -/
theorem pointLaw_change {opt : GroupOptions} {r : PointRecord} {st : SeqState} (h : pointLaw opt r) (he : r.enabled = true)
    (hst : stateAllowed opt r.sensitivity st) (rev : Revision) : pointLaw opt { r with state := st, revision := rev } :=
  ⟨hst, fun hdisabled => absurd (he.symm.trans hdisabled) (by simp), h.2.2⟩

/-! ### The two tables (R6, R8) -/

theorem stateAllowed_normal (opt : GroupOptions) (sensitivity : Sensitivity) : stateAllowed opt sensitivity .normal := by
  simp [stateAllowed]

/-- R6: what FIELD_CLEAR leads to. -/
theorem fieldMove_clear {opt : GroupOptions} {st st' : SeqState} (hm : fieldMove opt st .clear = some st') :
    st' = .normal ∨ (st' = .unackCleared ∧ opt.lockIn = true) ∨ (st' = .ringback ∧ opt.ringback = true) := by
  cases st with
  | alert => cases hopt : opt.lockIn <;> simp_all [fieldMove]
  | acked => cases hopt : opt.ringback <;> simp_all [fieldMove]
  | normal | unackCleared | ringback => simp [fieldMove] at hm

/-- R6: the events a point may get lead to states it may take. -/
theorem fieldMove_allowed {opt : GroupOptions} {r : PointRecord} {ev : FieldEvent} {st : SeqState} (h : pointLaw opt r)
    (he : r.enabled = true) (hev : ev = .capture ↔ r.sensitivity = .momentary) (hm : fieldMove opt r.state ev = some st) :
    stateAllowed opt r.sensitivity st := by
  obtain ⟨_, _, hlockIn⟩ := h
  cases ev with
  | assert =>
    have hs : r.sensitivity ≠ .momentary := fun hs => by simpa using hev.mpr hs
    have hst : st = .alert := by cases hr : r.state <;> simp_all [fieldMove]
    exact ⟨fun h => absurd h hs, by simp [hst], by simp [hst]⟩
  | clear =>
    have hs : r.sensitivity ≠ .momentary := fun hs => by simpa using hev.mpr hs
    obtain rfl | ⟨rfl, hopt⟩ | ⟨rfl, hopt⟩ := fieldMove_clear hm
    · exact stateAllowed_normal _ _
    · exact ⟨fun h => absurd h hs, by simp [hopt], by simp⟩
    · exact ⟨fun h => absurd h hs, by simp, by simp [hopt]⟩
  | capture =>
    have hst : st = .unackCleared := by cases hr : r.state <;> simp_all [fieldMove]
    have hopt := hlockIn he (hev.mp rfl)
    exact ⟨by simp [hst], by simp [hopt], by simp [hst]⟩

/-- R4, R6: FIELD_ASSERT leads to an asserted state and FIELD_CLEAR to one that is not, or the state is one already. -/
theorem fieldMove_asserted (opt : GroupOptions) (st : SeqState) {ev : FieldEvent} (hev : ev ≠ .capture) :
    ((fieldMove opt st ev).getD st).asserted = decide (ev = .assert) := by
  cases ev with
  | assert => cases st <;> rfl
  | clear =>
    cases st with
    | alert => cases hopt : opt.lockIn <;> simp [fieldMove, hopt, SeqState.asserted]
    | acked => cases hopt : opt.ringback <;> simp [fieldMove, hopt, SeqState.asserted]
    | normal | unackCleared | ringback => rfl
  | capture => exact absurd rfl hev

/-- R8: an item leads to a state the point may take, of the same assertion. -/
theorem itemMove_allowed {opt : GroupOptions} {r : PointRecord} {a : Action} {st : SeqState} (h : pointLaw opt r)
    (hm : itemMove opt r.state a = some st) : stateAllowed opt r.sensitivity st ∧ st.asserted = r.state.asserted := by
  obtain ⟨hallowed, _, _⟩ := h
  cases hr : r.state with
  | normal | acked => simp [itemMove, hr] at hm
  | alert =>
    cases a with
    | restore => simp [itemMove, hr] at hm
    | ack =>
      obtain rfl : SeqState.acked = st := by simpa [itemMove, hr] using hm
      have hs : r.sensitivity ≠ .momentary := fun hs => (hallowed.1 hs).1 hr
      exact ⟨⟨fun h => absurd h hs, by simp, by simp⟩, rfl⟩
  | unackCleared =>
    cases a with
    | restore => simp [itemMove, hr] at hm
    | ack =>
      cases hopt : opt.ringback with
      | true =>
        obtain rfl : SeqState.ringback = st := by simpa [itemMove, hr, hopt] using hm
        exact ⟨⟨by simp, by simp, by simp [hopt]⟩, rfl⟩
      | false =>
        obtain rfl : SeqState.normal = st := by simpa [itemMove, hr, hopt] using hm
        exact ⟨stateAllowed_normal _ _, rfl⟩
  | ringback =>
    cases a with
    | ack => simp [itemMove, hr] at hm
    | restore =>
      obtain rfl : SeqState.normal = st := by simpa [itemMove, hr] using hm
      exact ⟨stateAllowed_normal _ _, rfl⟩

theorem state_ne_normal_of_itemMove {opt : GroupOptions} {st st' : SeqState} {a : Action} (h : itemMove opt st a = some st') :
    st ≠ .normal := by
  rintro rfl
  simp [itemMove] at h

/-! ### A change, an event, an item in the state -/

theorem groupOptions_of_control {s t : State} (h : t.control = s.control) : t.groupOptions = s.groupOptions := by
  funext g
  simp only [State.groupOptions, h]

theorem linePoint_ne_health (i : LineNo) : (16 : PointNo) ≠ linePoint i := by
  intro h
  have := congrArg Fin.val h
  simp only [linePoint] at this
  omega

theorem linePoint_inj {i j : LineNo} (h : linePoint i = linePoint j) : i = j := by
  have := congrArg Fin.val h
  exact Fin.ext this

theorem pointsLaw_changePoint {p : PointNo} {st : SeqState} {s : State} (h : s.pointsLaw) (he : (s.point p).enabled = true)
    (hst : stateAllowed (s.groupOptions (s.point p).group) (s.point p).sensitivity st) : (changePoint p st s).pointsLaw := by
  intro q
  rw [groupOptions_of_control (changePoint_control p st s), point_changePoint]
  split
  · exact pointLaw_change (h p) he hst _
  · exact h q

theorem pointsLaw_fieldEvent {p : PointNo} {ev : FieldEvent} {s : State} (h : s.pointsLaw)
    (hev : ev = .capture ↔ (s.point p).sensitivity = .momentary) : (fieldEvent p ev s).pointsLaw := by
  unfold fieldEvent
  split
  · next hguard =>
    rw [Bool.and_eq_true] at hguard
    split
    · next st hm => exact pointsLaw_changePoint h hguard.2 (fieldMove_allowed (h p) hguard.2 hev hm)
    · exact h
  · exact h

/-- The record of the point of an event the engine takes. -/
theorem point_fieldEvent_self {p : PointNo} {ev : FieldEvent} {s : State} (ha : s.active = true) (he : (s.point p).enabled = true) :
    ((fieldEvent p ev s).point p).enabled = (s.point p).enabled ∧
      ((fieldEvent p ev s).point p).sensitivity = (s.point p).sensitivity ∧
      ((fieldEvent p ev s).point p).state =
        (fieldMove (s.groupOptions (s.point p).group) (s.point p).state ev).getD (s.point p).state := by
  cases hm : fieldMove (s.groupOptions (s.point p).group) (s.point p).state ev with
  | none =>
    rw [fieldEvent_of_no_move hm]
    exact ⟨rfl, rfl, rfl⟩
  | some st =>
    rw [fieldEvent_of_move ha he hm, point_changePoint_self]
    exact ⟨rfl, rfl, rfl⟩

theorem healthLevel_fieldEvent (p : PointNo) (ev : FieldEvent) (s : State) :
    (fieldEvent p ev s).engine.healthLevel = s.engine.healthLevel := by
  obtain heq | ⟨st, heq⟩ := fieldEvent_cases p ev s <;> rw [heq]
  rw [changePoint_engine]

/-- An item moves its point within what the field stands for (R8). -/
theorem takeItem_keeps {a : Action} {s : State} {i : Item} (h : s.pointsLaw) :
    (takeItem a s i).pointsLaw ∧ (∀ q, (s.point q).sameField ((takeItem a s i).point q)) ∧
      (takeItem a s i).engine.healthLevel = s.engine.healthLevel := by
  cases hm : s.itemMove? a i with
  | none =>
    rw [takeItem_of_no_move hm]
    exact ⟨h, fun q => PointRecord.sameField_refl _, rfl⟩
  | some st =>
    rw [takeItem_of_move hm]
    have hmove : itemMove (s.groupOptions (s.point i.point).group) (s.point i.point).state a = some st := by
      unfold State.itemMove? at hm
      split at hm
      · exact hm
      · cases hm
    obtain ⟨hallowed, hasserted⟩ := itemMove_allowed (h i.point) hmove
    refine ⟨pointsLaw_changePoint h (enabled_of_state (h i.point) (state_ne_normal_of_itemMove hmove)) hallowed, fun q => ?_, ?_⟩
    · rw [point_changePoint]
      split
      · next hq =>
        subst hq
        exact ⟨rfl, rfl, hasserted⟩
      · exact PointRecord.sameField_refl _
    · rw [changePoint_engine]

end Sys2Proof.Machine

/-! PROOFS. The laws of the points along a step (R2, R4, R5, R10, R18, R24, R28, R166, R173). -/

namespace Sys2Proof.Machine

theorem storeLaw_of_control {s t : State} (h : t.control.storeWrite = s.control.storeWrite) : storeLaw s → storeLaw t := by
  rw [storeLaw, storeLaw, h]
  exact id

/-- Nothing the laws read has changed; a station whose blocks run may enter another of its states. -/
theorem sequenceInv_of_same {s t : State} (h : s.sequenceInv) (he : t.engine = s.engine)
    (hm : ∀ i, (t.input i).enabled = (s.input i).enabled ∧ (t.input i).sensitivity = (s.input i).sensitivity ∧
      (t.input i).qualified = (s.input i).qualified)
    (hl : t.control.loaded = s.control.loaded) (hw : t.control.storeWrite = s.control.storeWrite)
    (hq : quietEngine s → quietEngine t) : t.sequenceInv := by
  rw [sequenceInv_iff] at h ⊢
  obtain ⟨hpoints, hlines, hhealth, hstore, hquiet⟩ := h
  have hpoint (p : PointNo) : t.point p = s.point p := by simp only [State.point, he]
  refine ⟨fun p => ?_, fun i => ?_, ?_, storeLaw_of_control hw hstore, hq hquiet⟩
  · have hopt (g : GroupNo) : t.groupOptions g = s.groupOptions g := by simp only [State.groupOptions, hl]
    rw [hopt, hpoint]
    exact hpoints p
  · obtain ⟨henabled, hsens, hqualified⟩ := hm i
    rw [lineLaw, henabled, hsens, hqualified, hpoint]
    exact hlines i
  · rw [healthLaw, hpoint, he]
    exact hhealth

theorem quietEngine_of_active {t : State} (h : t.active = true) : quietEngine t := fun hq => absurd (h.symm.trans hq) (by simp)

theorem sequenceInv_of_frame {s t : State} (h : s.sequenceInv) (hc : t.control = s.control) (he : t.engine = s.engine)
    (hm : t.monitor = s.monitor) : t.sequenceInv := by
  refine sequenceInv_of_same h he (fun i => by simp only [State.input, hm, and_self]) (by rw [hc]) (by rw [hc]) fun hquiet => ?_
  rw [quietEngine, active_of_control hc, he, hm, hc]
  exact hquiet

/-- A station whose blocks run keeps its setup and its points. -/
theorem sequenceInv_of_active {s t : State} (h : s.sequenceInv) (ha : t.active = true) (he : t.engine = s.engine)
    (hm : t.monitor = s.monitor) (hl : t.control.loaded = s.control.loaded) (hw : t.control.storeWrite = s.control.storeWrite) :
    t.sequenceInv :=
  sequenceInv_of_same h he (fun i => by simp only [State.input, hm, and_self]) hl hw fun _ => quietEngine_of_active ha

theorem point_atReset {s : State} (h : s.engine = .atReset) (p : PointNo) : s.point p = PointRecord.atReset p := by
  rw [State.point, h]
  exact Vector.getElem_ofFn _

theorem input_atReset {s : State} (h : s.monitor = .atReset) (i : LineNo) : s.input i = InputRecord.atReset := by
  rw [State.input, h]
  exact Vector.getElem_replicate _

/-- The values after reset obey every law of the points (R166). -/
theorem sequenceInv_atReset {t : State} (he : t.engine = .atReset) (hm : t.monitor = .atReset) (hw : storeLaw t)
    (hl : t.control.station ≠ .unconfigured → t.control.loaded = none) : t.sequenceInv := by
  rw [sequenceInv_iff]
  refine ⟨fun p => ?_, fun i => ?_, ?_, hw, fun _ => ⟨he, hm, hl⟩⟩
  · rw [point_atReset he]
    exact ⟨stateAllowed_normal _ _, fun _ => ⟨rfl, rfl⟩, fun _ h => by simp [PointRecord.atReset] at h⟩
  · have henabled : (linePoint i == (16 : PointNo)) = false := beq_eq_false_iff_ne.mpr (linePoint_ne_health i).symm
    rw [input_atReset hm, point_atReset he]
    exact ⟨⟨henabled.symm, rfl⟩, fun h => by simp [InputRecord.atReset] at h⟩
  · rw [healthLaw, point_atReset he, he]
    exact ⟨rfl, rfl, rfl⟩

/-! ### Events and items -/

theorem sequenceInv_takeItem {a : Action} {s : State} {i : Item} (ha : s.active = true) (h : s.sequenceInv) :
    (takeItem a s i).sequenceInv := by
  rw [sequenceInv_iff] at h ⊢
  obtain ⟨hpoints, hlines, ⟨henabled, hsens, hlevel⟩, hstore, _⟩ := h
  obtain ⟨hpoints', hfield, hlevel'⟩ := takeItem_keeps (a := a) (i := i) hpoints
  have hcontrol : (takeItem a s i).control = s.control := takeItem_control a s i
  refine ⟨hpoints', fun k => ?_, ?_, storeLaw_of_control (by rw [hcontrol]) hstore,
    quietEngine_of_active ((active_of_control hcontrol).trans ha)⟩
  · rw [State.input, takeItem_monitor]
    exact lineLaw_congr (hlines k) (hfield (linePoint k))
  · obtain ⟨henabled', hsens', hasserted⟩ := hfield 16
    rw [healthLaw, henabled', hsens', hasserted, hlevel']
    exact ⟨henabled, hsens, hlevel⟩

theorem sequenceInv_takeOwnItems {a : Action} {snap : List Entry} {s : State} (h : s.sequenceInv) :
    (takeOwnItems a snap s).sequenceInv := by
  have hfold (items : List Item) {u : State} (ha : u.active = true) (hu : u.sequenceInv) : (items.foldl (takeItem a) u).sequenceInv := by
    induction items generalizing u with
    | nil => exact hu
    | cons i rest ih => exact ih (by rw [active_of_control (takeItem_control ..), ha]) (sequenceInv_takeItem ha hu)
  unfold takeOwnItems takeItems
  split
  · split
    · next ha => exact hfold _ ha h
    · exact h
  · exact h

/-- The monitor's look moves point 16 alone, to the level it takes (R17, R18). -/
theorem sequenceInv_healthSync {s : State} (h : s.sequenceInv) : (healthSync s).sequenceInv := by
  unfold healthSync
  split
  · next hguard =>
    rw [Bool.and_eq_true] at hguard
    obtain ⟨ha, _⟩ := hguard
    rw [sequenceInv_iff] at h ⊢
    obtain ⟨hpoints, hlines, ⟨henabled, hsens, _⟩, hstore, _⟩ := h
    have hcontrol (u : State) (ev : FieldEvent) : (fieldEvent 16 ev u).control = u.control := fieldEvent_control 16 ev u
    have hevent : (if s.anyCause = true then FieldEvent.assert else .clear) ≠ .capture := by split <;> simp
    refine ⟨pointsLaw_fieldEvent (s := s.withEngine _) hpoints ⟨fun hev => absurd hev hevent, fun hm => ?_⟩, fun i => ?_, ?_,
      storeLaw_of_control (by rw [hcontrol]; rfl) hstore, quietEngine_of_active ((active_of_control (hcontrol _ _)).trans ha)⟩
    · exact absurd (hsens.symm.trans hm) (by simp)
    · rw [State.input, fieldEvent_monitor, point_fieldEvent_of_ne (linePoint_ne_health i).symm]
      exact hlines i
    · obtain ⟨henabled', hsens', hstate'⟩ := point_fieldEvent_self (p := 16) (ev := if s.anyCause = true then .assert else .clear)
        (s := s.withEngine { s.engine with healthLevel := s.anyCause }) ha henabled
      rw [healthLaw, henabled', hsens', hstate', fieldMove_asserted _ _ hevent, healthLevel_fieldEvent]
      refine ⟨henabled, hsens, ?_⟩
      show s.anyCause = _
      cases s.anyCause <;> rfl
  · exact h

theorem sequenceInv_causeMoment {o : Orders} {s : State} (h : s.sequenceInv) : (causeMoment o s).sequenceInv := by
  unfold causeMoment
  split
  · exact sequenceInv_healthSync h
  · exact h

/-- A maintained input that raises nothing has its qualified level already, and one that raises an event takes the event's (R24). -/
theorem event_maintained {r : InputRecord} {level : Bool} (he : r.enabled = true) (hs : r.sensitivity = .maintained) :
    (r.event level = none ∧ level = r.qualified) ∨
      r.event level = some (if level then .assert else .clear) := by
  by_cases hsame : level = r.qualified
  · exact .inl ⟨by simp [InputRecord.event, hsame], hsame⟩
  · refine .inr ?_
    cases level <;> simp [InputRecord.event, he, hs, hsame]

theorem event_eq_capture {r : InputRecord} {level : Bool} {ev : FieldEvent} (h : r.event level = some ev) :
    r.enabled = true ∧ (ev = .capture ↔ r.sensitivity = .momentary) := by
  have he : r.enabled = true := by
    by_contra hdisabled
    simp [InputRecord.event, hdisabled] at h
  refine ⟨he, ?_⟩
  cases hs : r.sensitivity with
  | maintained => obtain rfl | rfl := event_of_maintained hs h <;> simp
  | momentary => simp [event_of_momentary hs h]

/-- The record of the point of an event it may get, or not. -/
theorem lineLaw_raise {p : PointNo} {r : InputRecord} {s : State} (ha : s.active = true) (h : lineLaw r (s.point p)) (level : Bool) :
    lineLaw (r.qualify level) ((raise p (r.event level) s).point p) := by
  obtain ⟨⟨henabled, hsens⟩, hagree⟩ := h
  cases hev : r.event level with
  | none =>
    refine ⟨⟨henabled, hsens⟩, fun he hm => ?_⟩
    obtain ⟨_, hlevel⟩ | hsome := event_maintained (r := r) (level := level) he hm
    · exact hlevel.trans (hagree he hm)
    · cases hev.symm.trans hsome
  | some ev =>
    obtain ⟨he, _⟩ := event_eq_capture hev
    obtain ⟨henabled', hsens', hstate'⟩ := point_fieldEvent_self (ev := ev) ha (henabled.symm.trans he)
    refine ⟨⟨henabled.trans henabled'.symm, hsens.trans hsens'.symm⟩, fun he hm => ?_⟩
    obtain ⟨hnone, _⟩ | hsome := event_maintained (r := r) (level := level) he hm
    · cases hev.symm.trans hnone
    · obtain rfl := Option.some.inj (hev.symm.trans hsome)
      show level = ((fieldEvent p _ s).point p).state.asserted
      rw [hstate', fieldMove_asserted _ _ (by split <;> simp)]
      cases level <;> rfl

/-- A qualified level and the event it raises leave the input and its point in step (R24, R25, R29). -/
theorem sequenceInv_qualificationExpiry {i : LineNo} {s : State} (ha : s.active = true) (h : s.sequenceInv) :
    (qualificationExpiry i s).sequenceInv := by
  unfold qualificationExpiry
  split
  · generalize s.sensedInput i = level
    rw [sequenceInv_iff] at h ⊢
    obtain ⟨hpoints, hlines, hhealth, hstore, _⟩ := h
    have hcontrol : (raise (linePoint i) ((s.input i).event level) (s.setInput i ((s.input i).qualify level))).control = s.control := by
      simp
    have hmonitor : (raise (linePoint i) ((s.input i).event level) (s.setInput i ((s.input i).qualify level))).monitor =
      (s.setInput i ((s.input i).qualify level)).monitor := by simp
    have hsens : (s.input i).sensitivity = (s.point (linePoint i)).sensitivity := (hlines i).1.2
    refine ⟨?_, fun k => ?_, ?_, storeLaw_of_control (by rw [hcontrol]) hstore,
      quietEngine_of_active ((active_of_control hcontrol).trans ha)⟩
    · unfold raise
      split
      · next ev hev =>
        obtain ⟨_, hcapture⟩ := event_eq_capture hev
        exact pointsLaw_fieldEvent (s := s.setInput i _) hpoints (hsens ▸ hcapture)
      · exact hpoints
    · rw [State.input, hmonitor]
      show lineLaw ((s.setInput i ((s.input i).qualify level)).input k) _
      rw [input_setInput]
      by_cases hk : k = i
      · subst hk
        rw [if_pos rfl]
        exact lineLaw_raise (s := s.setInput k _) ha (hlines k) level
      · rw [if_neg hk]
        unfold raise
        split
        · rw [point_fieldEvent_of_ne fun hp => hk (linePoint_inj hp)]
          exact hlines k
        · exact hlines k
    · unfold raise
      split
      · rw [healthLaw, point_fieldEvent_of_ne (linePoint_ne_health i), healthLevel_fieldEvent]
        exact hhealth
      · exact hhealth
  · exact h

/-! ### The setup takes effect (R175) -/

/-- R172 step 9: an image that passes validation gives a momentary point a group with lock-in. -/
theorem lockIn_of_imageValid {img : Image} (h : imageValid img = true) {n : LineNo} (he : imageEnabled img n = true)
    (hs : imageSensitivity img n = .momentary) : (imageGroup img (groupOf (imagePointGroup img n))).lockIn = true := by
  have hfind : (List.finRange 16).find? (needsLockin img) = none := by
    unfold imageValid imageRefusal? at h
    grind
  have hneeds := List.find?_eq_none.mp hfind n (List.mem_finRange n)
  simpa [needsLockin, he, hs] using hneeds

/-- Every point as the setup takes effect (R2, R175). -/
theorem point_setupTakesEffect (img : Image) (s : State) (p : PointNo) :
    (setupTakesEffect img s).point p = configurePoint img p (s.point p) := by
  exact Vector.getElem_ofFn _

theorem input_setupTakesEffect (img : Image) (s : State) (i : LineNo) :
    (setupTakesEffect img s).input i = startInput img i s.pins.inputs[i] := by
  exact Vector.getElem_ofFn _

theorem configurePoint_line (img : Image) (i : LineNo) (r : PointRecord) :
    configurePoint img (linePoint i) r =
      { r with enabled := imageEnabled img i, group := groupOf (imagePointGroup img i), sensitivity := imageSensitivity img i } := by
  unfold configurePoint linePoint
  rw [dif_pos i.isLt]

theorem configurePoint_health (img : Image) (r : PointRecord) :
    configurePoint img 16 r = { r with enabled := true, group := imageHealthGroup img, sensitivity := .maintained } := rfl

theorem point_cases (p : PointNo) : p = 16 ∨ ∃ i, p = linePoint i := by
  by_cases hp : p.val < 16
  · exact .inr ⟨⟨p.val, hp⟩, rfl⟩
  · refine .inl (Fin.ext ?_)
    show p.val = 16
    omega

/-- A valid setup over the values after reset obeys the laws (R2, R18, R27). -/
theorem sequenceInv_setupTakesEffect {img : Image} {s : State} (hr : s.control.inReset = false) (hv : imageValid img = true)
    (he : s.engine = .atReset) (hw : storeLaw s) : (setupTakesEffect img s).sequenceInv := by
  have hopt (g : GroupNo) : (setupTakesEffect img s).groupOptions g = imageGroup img g := rfl
  rw [sequenceInv_iff]
  refine ⟨fun p => ?_, fun i => ?_, ?_, hw, quietEngine_of_active (active_setupTakesEffect hr)⟩
  · rw [hopt, point_setupTakesEffect, point_atReset he]
    obtain rfl | ⟨i, rfl⟩ := point_cases p
    · rw [configurePoint_health]
      exact ⟨stateAllowed_normal _ _, fun _ => ⟨rfl, rfl⟩, fun _ h => by cases h⟩
    · rw [configurePoint_line]
      exact ⟨stateAllowed_normal _ _, fun _ => ⟨rfl, rfl⟩, fun he hs => lockIn_of_imageValid hv he hs⟩
  · rw [input_setupTakesEffect, point_setupTakesEffect, point_atReset he, configurePoint_line]
    exact ⟨⟨rfl, rfl⟩, fun _ _ => rfl⟩
  · rw [healthLaw, point_setupTakesEffect, point_atReset he]
    exact ⟨rfl, rfl, rfl⟩

/-! ### The acts -/

/-- A silent state keeps the setup and the points, after the monitor's look (R17, R99). -/
theorem sequenceInv_enterSilent {o : Orders} {st : StationState} {s : State} (ha : s.active = true) (hst : st.silent = true)
    (h : s.sequenceInv) : (enterSilent o st s).sequenceInv := by
  have hentered : (stopPresence ((leaveState s).withStation st)).active = true := by
    simp [State.active, stopPresence, inReset_of_active ha, active_of_silent hst]
  have hloaded : (leaveState s).control.loaded = s.control.loaded ∧ (leaveState s).control.storeWrite = s.control.storeWrite := by
    unfold leaveState
    split <;> exact ⟨rfl, rfl⟩
  have hkept : (stopPresence ((leaveState s).withStation st)).sequenceInv :=
    sequenceInv_of_active h hentered (by simp [stopPresence]) (by simp [stopPresence]) hloaded.1 hloaded.2
  exact sequenceInv_of_frame (sequenceInv_causeMoment (o := o) hkept) (by simp [enterSilent]) (by simp [enterSilent])
    (by simp [enterSilent])

/-- Each act keeps the laws of the points. -/
theorem act_keeps_sequenceInv {s t : State} (hact : Act s t) (h : s.sequenceInv) : t.sequenceInv := by
  have hparts := (sequenceInv_iff s).mp h
  obtain ⟨_, _, _, hstore, hquiet⟩ := hparts
  cases hact
  case aside ha =>
    obtain ⟨hstage, he, hm, _⟩ := ha
    obtain ⟨hstation, _, _, hloaded, hwrite⟩ := id hstage
    refine sequenceInv_of_same h he (fun i => by simp only [State.input, hm, and_self]) hloaded hwrite fun hq => ?_
    rw [quietEngine, active_of_sameStage hstage, he, hm, hstation, hloaded]
    exact hq
  case tick =>
    have hinput (i : LineNo) : (tickTimers s).input i = (s.input i).tick := by
      simp only [State.input, tickTimers, Fin.getElem_fin, Vector.getElem_map]
    refine sequenceInv_of_same h rfl (fun i => by rw [hinput]; exact ⟨rfl, rfl, rfl⟩) rfl rfl fun hq hactive => ?_
    obtain ⟨he, hm, hl⟩ := hq hactive
    refine ⟨he, ?_, hl⟩
    simp [tickTimers, hm, PointMonitor.atReset, InputRecord.tick, InputRecord.atReset, ButtonRecords.atReset, ButtonRecord.tick,
      ButtonRecord.atReset, Timer.tick]
  case timers m ha hm => exact sequenceInv_of_same h rfl hm rfl rfl fun _ => quietEngine_of_active ha
  case qualify i ha => exact sequenceInv_qualificationExpiry ha h
  case item a i ha => exact sequenceInv_takeItem ha h
  case health => exact sequenceInv_healthSync h
  case press a _ =>
    exact sequenceInv_of_frame (sequenceInv_takeOwnItems (a := a) (snap := snapshot s.ann.scope a s.table) h)
      (by simp [pressItems]) (by simp [pressItems]) (by simp [pressItems])
  case silent o st ha hst => exact sequenceInv_enterSilent ha hst h
  case isolate o l ha _ =>
    refine sequenceInv_enterSilent (by rw [active_of_control (causeMoment_control ..)]; exact ha) rfl (sequenceInv_causeMoment ?_)
    exact sequenceInv_of_frame h rfl rfl rfl
  case join c ha _ =>
    have hloaded : (joinCore c s).control.loaded = s.control.loaded ∧ (joinCore c s).control.storeWrite = s.control.storeWrite := by
      rw [joinCore_control]
      unfold leaveState
      split <;> exact ⟨rfl, rfl⟩
    exact sequenceInv_of_active h (active_joinCore ha) (by simp) (by simp) hloaded.1 hloaded.2
  case run ha hst =>
    have hleft : (leaveState s).control = s.control := by simp [leaveState, hst]
    have hactive : (enterRunning s).active = true := by
      simp [State.active, enterRunning, inReset_of_active ha, StationState.active]
    exact sequenceInv_of_active h hactive (by simp [enterRunning]) (by simp [enterRunning]) (by simp [enterRunning, hleft])
      (by simp [enterRunning, hleft])
  case depart ha hst =>
    have hleft : (leaveState s).control = s.control := by
      obtain hst | ⟨hst, _⟩ := hst <;> simp [leaveState, hst]
    have hactive : (enterDeparting s).active = true := by
      simp [State.active, enterDeparting, inReset_of_active ha, StationState.active]
    exact sequenceInv_of_active h hactive (by simp [enterDeparting]) (by simp [enterDeparting]) (by simp [enterDeparting, hleft])
      (by simp [enterDeparting, hleft])
  case unconfigured hst =>
    obtain ⟨he, hm, _⟩ := hquiet (not_active_of_station (by rw [hst]; rfl))
    exact sequenceInv_atReset he hm hstore fun hne => absurd rfl hne
  case setup img hr hst hv =>
    obtain ⟨he, _, _⟩ := hquiet (not_active_of_station (by rw [hst]; rfl))
    exact sequenceInv_setupTakesEffect hr hv he hstore
  case stored img hr hst hw =>
    obtain ⟨he, _, _⟩ := hquiet (not_active_of_station (by rw [hst]; rfl))
    exact sequenceInv_setupTakesEffect (s := storeDone img s) hr (hstore img hw) he fun _ hnone => by cases hnone
  case storedUnconfigured img hst =>
    obtain ⟨he, hm, _⟩ := hquiet (not_active_of_station (by rw [hst]; rfl))
    exact sequenceInv_atReset he hm (fun _ hnone => by cases hnone) fun hne => absurd rfl hne
  case accept img hst hv =>
    obtain ⟨he, hm, hl⟩ := hquiet (not_active_of_station (by rw [hst]; rfl))
    refine sequenceInv_atReset he hm ?_ fun _ => hl (by rw [hst]; decide)
    rintro _ ⟨⟩
    exact hv
  case reset => exact sequenceInv_atReset rfl rfl (fun _ hnone => by cases hnone) fun _ => rfl
  case leaveReset straps hr =>
    rw [Sys2Proof.Machine.leaveReset, if_pos hr]
    exact sequenceInv_atReset rfl rfl (fun _ hnone => by cases hnone) fun _ => rfl
  all_goals exact sequenceInv_of_frame h (by simp) (by simp) (by simp)

/-- Settles O56. -/
theorem everyStepKeepsSequenceLaw : Obligations.EveryStepKeepsSequenceLaw :=
  step_keeps (fun _ _ => act_keeps_sequenceInv) fun _ _ => id

end Sys2Proof.Machine

/-! PROOFS. The reset, what the machine reads right after it, and the commands a part in reset takes (R166, R169 to R171, R173). -/

namespace Sys2Proof.Machine

/-! ### Right after a reset -/

theorem active_reset : State.reset.active = false := rfl

theorem selfInv_reset : State.reset.selfInv := selfInv_of_inReset rfl

/-- Settles O57: the reset values obey every law. -/
theorem lawsHoldAtReset : Obligations.LawsHoldAtReset :=
  ⟨⟨tableInv_atReset rfl rfl, fun ha => absurd (active_reset.symm.trans ha) (by simp)⟩, linkInv_atReset rfl,
    frameInv_atReset rfl rfl rfl, selfInv_reset, sequenceInv_atReset rfl rfl (fun _ h => by cases h) fun _ => rfl⟩

/-- Settles O60: the check value and the three frames are computed. -/
theorem frameBytesFollowTheLayout : Obligations.FrameBytesFollowTheLayout := by
  unfold Obligations.FrameBytesFollowTheLayout
  decide +kernel

/-- Settles O4: each value is the one the block is built with. -/
theorem resetStateReads : Obligations.ResetStateReads := by
  have hpoint (p : PointNo) : State.reset.point p = PointRecord.atReset p := point_atReset rfl p
  refine ⟨fun p => ?_, fun i => ?_, fun k => ?_, fun g => ?_, fun n => ?_, fun n => ?_, fun k => ?_, fun i => ?_, ?_⟩
  · rw [hpoint]
    exact ⟨rfl, rfl, rfl, rfl, by simp [PointRecord.atReset], rfl⟩
  · rw [input_atReset rfl]
    exact ⟨rfl, rfl, rfl, rfl, rfl, rfl, rfl⟩
  · cases k <;> rfl
  · exact Vector.getElem_replicate _
  · exact Vector.getElem_replicate _
  · exact Vector.getElem_replicate _
  · exact Vector.getElem_replicate _
  · exact Vector.getElem_replicate _
  · exact ⟨rfl, rfl, rfl, rfl, rfl, rfl, rfl, rfl, rfl, rfl, rfl, rfl, rfl, rfl, rfl, rfl⟩

/-! ### The three reset commands -/

/-- The byte of an image that a reset interrupts is the old one or the new one (R173). -/
theorem imageAfterReset_byte {isNew : Fin 96 → Bool} {c : StationControl} {img : Image} (h : c.storeWrite = some img) (i : Fin 96) :
    (imageAfterReset isNew c)[i] = c.storeImage[i] ∨ (imageAfterReset isNew c)[i] = img[i] := by
  have hbyte : (imageAfterReset isNew c)[i] = if isNew i then img[i] else c.storeImage[i] := by
    rw [imageAfterReset, h]
    exact Vector.getElem_ofFn _
  rw [hbyte]
  split
  · exact .inr rfl
  · exact .inl rfl

/-- Each of the three commands is one reset, with what it says of the supply. -/
theorem exec_reset {c : Instr} (s : State) (hc : c = .powerOn ∨ c = .resetPin ∨ c = .supplyLow) :
    ∃ isNew, exec c s = .next (enterReset isNew (decide (c = .powerOn)) (decide (c = .supplyLow)) s.drawn) := by
  obtain rfl | rfl | rfl := hc <;> exact ⟨_, rfl⟩

/-- Settles O3. -/
theorem resetCommandsRestoreEveryBlock : Obligations.ResetCommandsRestoreEveryBlock := by
  intro c s hc
  obtain ⟨isNew, hexec⟩ := exec_reset s hc
  refine ⟨_, hexec, rfl, rfl, rfl, rfl, rfl, rfl, rfl, rfl, rfl, rfl, rfl, rfl, rfl, rfl, rfl, rfl, rfl, rfl, rfl, rfl, rfl, rfl,
    fun hidle => ?_, fun img hwrite => imageAfterReset_byte (c := s.control) hwrite, rfl⟩
  show imageAfterReset isNew s.control = s.control.storeImage
  rw [imageAfterReset, hidle]

/-! ### Leaving reset -/

theorem ofNat?_eq_some (k : Nat) (n : StationNo) : StationNo.ofNat? k = some n ↔ k = n.number := by
  unfold StationNo.ofNat?
  split
  · rw [Option.some.injEq]
    exact ⟨fun h => h ▸ rfl, fun h => stationNo_ext h⟩
  · next hk =>
    exact ⟨nofun, fun h => absurd n.inRange (h ▸ hk)⟩

/-- The Station Control and the roster as the part leaves reset (R118, R169 to R171). -/
theorem leaveReset_blocks {s : State} (straps : BitVec 6) (h : s.control.inReset = true) :
    (leaveReset straps s).control =
        { s.control.resetVolatile with
          station := .setupWait, number := straps, resetCause := causeOfReset s.control, restartCount := countOfReset s.control,
          setupWindow := Timer.start setupWindowMs, inReset := false, powerLost := false, supplyFell := false } ∧
      (leaveReset straps s).roster =
        { Roster.atReset with
          entries := withSelf (StationNo.ofNat? straps.toNat) (countOfReset s.control) Roster.atReset.entries } := by
  rw [leaveReset, if_pos h]
  exact ⟨rfl, rfl⟩

/-- Settles O5. -/
theorem leavingResetSetsRecordAndStraps : Obligations.LeavingResetSetsRecordAndStraps := by
  intro straps s hreset
  obtain ⟨hcontrol, hroster⟩ := leaveReset_blocks straps hreset
  refine ⟨leaveReset straps s, rfl, ?_⟩
  rw [hcontrol]
  refine ⟨rfl, rfl, rfl, rfl, fun hp => ?_, fun hp hf => ?_, fun hp hf => ?_, fun n => ?_, rfl, rfl⟩
  · simp [causeOfReset, countOfReset, hp]
  · simp [causeOfReset, countOfReset, hp, hf]
  · simp [causeOfReset, countOfReset, hp, hf]
  · rw [State.member, hroster, withSelf_state]
    simp only [ofNat?_eq_some]

/-! ### In reset (R169) -/

theorem not_active_of_inReset {s : State} (h : s.control.inReset = true) : s.active = false := by simp [State.active, h]

theorem whenActive_of_not_active {f : State → State} {s : State} (h : s.active = false) : whenActive f s = s := by
  simp [whenActive, h]

theorem whenActive_of_active {f : State → State} {s : State} (h : s.active = true) : whenActive f s = f s := by
  simp [whenActive, h]

theorem whenAwake_of_inReset {f : State → State} {s : State} (h : s.control.inReset = true) : whenAwake f s = s := by
  simp [whenAwake, h]

theorem whenAwake_of_awake {f : State → State} {s : State} (h : s.control.inReset = false) : whenAwake f s = f s := by
  simp [whenAwake, h]

theorem serviceBytes_of_not_live {s : State} (h : s.portLive = false) (bytes : List Byte) : bytes.foldl serviceByte s = s := by
  induction bytes with
  | nil => rfl
  | cons b rest ih => rw [List.foldl_cons, serviceByte, if_neg (by simp [h]), ih]

/-- Settles O6: the running blocks and the port are off, and the line events move pins alone. -/
theorem partInResetTakesNoEvent : Obligations.PartInResetTakesNoEvent := by
  intro c s hreset hpower hpin hlow hleave
  have hactive := not_active_of_inReset hreset
  have hlive : s.portLive = false := by simp [State.portLive, hreset]
  have hblocks {f : State → State} : (whenActive f s).withPins s.pins = s := by rw [whenActive_of_not_active hactive]; rfl
  have hawake {f : State → State} : (whenAwake f s).withPins s.pins = s := by rw [whenAwake_of_inReset hreset]; rfl
  have hport (bytes : List Byte) : (bytes.foldl serviceByte s).withPins s.pins = s := by rw [serviceBytes_of_not_live hlive]; rfl
  cases c
  case powerOn => exact absurd rfl hpower
  case resetPin => exact absurd rfl hpin
  case supplyLow => exact absurd rfl hlow
  case leaveReset straps => exact absurd rfl (hleave straps)
  case setupWindowExpiry | storeWriteComplete | supplyWarning | supplyRelease | cadenceTick => exact ⟨_, rfl, hawake⟩
  case inputLevelChange i high =>
    refine ⟨_, rfl, ?_⟩
    rw [inputChange, if_neg (by simp [hactive])]
    rfl
  case buttonLevelChange k high =>
    refine ⟨_, rfl, ?_⟩
    rw [buttonChange, if_neg (by simp [hactive])]
    rfl
  case outputSenseChange k high =>
    refine ⟨_, rfl, ?_⟩
    rw [senseChange, if_neg (by simp [hactive]), settle_not_active (setSensePin k high s) hactive]
    rfl
  case frameReceivedCorrupt bytes =>
    refine ⟨_, rfl, ?_⟩
    rw [takeCorrupt, if_neg (by simp [hactive])]
    rfl
  case serviceByteReceived b => exact ⟨_, rfl, hport [b]⟩
  case serviceGapTimerExpiry =>
    refine ⟨_, rfl, ?_⟩
    rw [gapExpiry, if_neg (by simp [hlive])]
    rfl
  case serviceFramingFault =>
    refine ⟨_, rfl, ?_⟩
    rw [framingFault, if_neg (by simp [hlive])]
    rfl
  case responseComplete =>
    refine ⟨_, rfl, ?_⟩
    rw [endResponse, if_neg (by simp [hlive])]
    rfl
  case status | readTable | readRoster | readPoints | readSetup | setup | unknownRequestKind =>
    exact ⟨_, rfl, hport _⟩
  all_goals exact ⟨_, rfl, hblocks⟩

end Sys2Proof.Machine

/-! PROOFS. The field lines and the input records (R21 to R30). -/

namespace Sys2Proof.Machine

/-! ### Lines that change -/

theorem exec_inputLevelChange_of_change {i : LineNo} {high : Bool} {s : State} (ha : s.active = true) (hc : s.pins.inputs[i] ≠ high) :
    exec (.inputLevelChange i high) s = .next (timeInput i (setInputPin i high s)) := by
  refine congrArg Host.Outcome.next ?_
  rw [inputChange, if_pos (by simpa [ha] using hc)]

theorem exec_buttonLevelChange_of_change {k : Button} {high : Bool} {s : State} (ha : s.active = true)
    (hc : s.pins.buttons.get k ≠ high) :
    exec (.buttonLevelChange k high) s = .next (timeButton k (setButtonPin k high s)) := by
  refine congrArg Host.Outcome.next ?_
  rw [buttonChange, if_pos (by simpa [ha] using hc)]

theorem inputPin_set (i j : LineNo) (high : Bool) (s : State) :
    (setInputPin i high s).pins.inputs[j] = if j = i then high else s.pins.inputs[j] := vector_get_set _ _ _ _

theorem sensedInput_set (i : LineNo) (high : Bool) (s : State) :
    (setInputPin i high s).sensedInput i = sensedThrough (s.input i).polarity high := by
  rw [State.sensedInput, inputPin_set, if_pos rfl]
  rfl

theorem buttonPin_set (k j : Button) (high : Bool) (s : State) :
    (setButtonPin k high s).pins.buttons.get j = if j = k then high else s.pins.buttons.get j := pins_get_put _ _ _ _

theorem button_setButton (s : State) (k j : Button) (r : ButtonRecord) :
    (s.setButton k r).button j = if j = k then r else s.button j := buttons_get_put _ _ _ _

/-- Settles O11. -/
theorem lineChangeMovesItsTimer : Obligations.LineChangeMovesItsTimer := by
  refine ⟨fun i high s ha hc => ⟨_, exec_inputLevelChange_of_change ha hc, ?_, ?_, fun j hj => ⟨?_, ?_⟩, rfl, rfl⟩,
    fun k high s ha hc => ⟨_, exec_buttonLevelChange_of_change ha hc, ?_, ?_, fun j hj => ⟨?_, ?_⟩, rfl, rfl⟩⟩
  · exact (inputPin_set i i high s).trans (if_pos rfl)
  · rw [timeInput, input_setInput, if_pos rfl, sensedInput_set]
    rfl
  · rw [timeInput, input_setInput, if_neg hj]
    rfl
  · exact (inputPin_set i j high s).trans (if_neg hj)
  · exact (buttonPin_set k k high s).trans (if_pos rfl)
  · rw [timeButton, button_setButton, if_pos rfl, State.sensedButton, buttonPin_set, if_pos rfl]
    rfl
  · rw [timeButton, button_setButton, if_neg hj]
    rfl
  · exact (buttonPin_set k j high s).trans (if_neg hj)

/-! ### Events of an input -/

/-- Settles O12, by the cases of `InputRecord.event` and `InputRecord.qualify`. -/
theorem inputEventsFollowSensitivity : Obligations.InputEventsFollowSensitivity := by
  intro r level
  refine ⟨fun he => ?_, fun hl => ?_, fun he hs hq => ?_, fun he hs hq => ?_, fun he hs hq => ?_, fun hs => ?_, fun hs hl => ?_,
    fun hs => ?_⟩
  · simp [InputRecord.event, he]
  · simp [InputRecord.event, hl]
  · simp [InputRecord.event, he, hs, hq]
  · simp [InputRecord.event, he, hs, hq]
  · simp [InputRecord.event, he, hs, hq]
  · simp [InputRecord.event, hs]
  · simp [InputRecord.qualify, hs, hl]
  · simp [InputRecord.qualify, hs]

/-! ### The end of a command -/

/-- The monitor's look moves point 16 alone. -/
theorem point_healthSync_of_ne {p : PointNo} (hp : p ≠ 16) (s : State) : (healthSync s).point p = s.point p := by
  unfold healthSync
  split
  · exact point_fieldEvent_of_ne (s := s.withEngine _) hp _
  · rfl

theorem point_of_engine {s t : State} (h : t.engine = s.engine) (p : PointNo) : t.point p = s.point p := by
  simp only [State.point, h]

theorem point_finish_of_ne {p : PointNo} (hp : p ≠ 16) (s : State) : (finish s).point p = s.point p :=
  (point_of_engine (settle_engine _) p).trans (point_healthSync_of_ne hp s)

/-- A command of the running blocks that ends by settling. -/
theorem whenActive_next {f : State → State} {s : State} (ha : s.active = true) :
    (Host.Outcome.next (whenActive f s) : Host.Outcome State Fault Refusal) = .next (f s) :=
  congrArg _ (whenActive_of_active ha)

/-! ### A qualification -/

theorem qualificationExpiry_of_running {i : LineNo} {s : State} (h : (s.input i).timer.isRunning = true) :
    qualificationExpiry i s =
      raise (linePoint i) ((s.input i).event (s.sensedInput i)) (s.setInput i ((s.input i).qualify (s.sensedInput i))) := by
  rw [qualificationExpiry, if_pos h]

theorem linePoint_ne_of_ne {i j : LineNo} (h : j ≠ i) : linePoint j ≠ linePoint i := fun hp => h (linePoint_inj hp)

/-- Settles O13: the expiry writes the input and raises its event, and the monitor's look moves point 16 alone. -/
theorem qualificationExpiryRaisesEvent : Obligations.QualificationExpiryRaisesEvent := by
  intro i s ha hrunning
  refine ⟨_, whenActive_next ha, ?_⟩
  rw [qualificationExpiry_of_running hrunning]
  generalize hu : s.setInput i ((s.input i).qualify (s.sensedInput i)) = u
  generalize (s.input i).event (s.sensedInput i) = event
  have hpoint (j : LineNo) : (finish (raise (linePoint i) event u)).point (linePoint j) = (raise (linePoint i) event u).point (linePoint j) :=
    point_finish_of_ne (linePoint_ne_health j).symm _
  have hinput (j : LineNo) : (finish (raise (linePoint i) event u)).input j = u.input j := by simp [State.input]
  have hactive : u.active = true := hu ▸ ha
  have hbefore (p : PointNo) : u.point p = s.point p := hu ▸ rfl
  have hopt : u.groupOptions = s.groupOptions := hu ▸ rfl
  have hself : u.input i = (s.input i).qualify (s.sensedInput i) := by rw [← hu, input_setInput, if_pos rfl]
  refine ⟨(hinput i).trans hself, by rw [hinput, hself]; rfl, by rw [hinput, hself]; rfl, fun j hj => ?_, ?_, ?_, fun j hj => ?_, ?_⟩
  · rw [hinput, ← hu, input_setInput, if_neg hj]
  · rintro ev st rfl he hm
    rw [← hbefore, ← hopt] at hm
    rw [hpoint, raise, fieldEvent_of_move hactive (by rw [hbefore, he]) hm, point_changePoint_self, hbefore]
  · rintro hquiet
    rw [hpoint, ← hbefore]
    cases event with
    | none => rfl
    | some ev =>
      obtain hnone | hdisabled | ⟨ev', hev', hm⟩ := hquiet
      · cases hnone
      · rw [raise, fieldEvent, if_neg (by simp [hbefore, hdisabled])]
      · cases hev'
        rw [← hbefore, ← hopt] at hm
        rw [raise, fieldEvent_of_no_move hm]
  · rw [hpoint]
    unfold raise
    split
    · rw [point_fieldEvent_of_ne (linePoint_ne_of_ne hj), hbefore]
    · exact hbefore _
  · subst hu
    exact ⟨by simp, by simp, by simp, by simp, by simp⟩

end Sys2Proof.Machine

/-! PROOFS. The operator at the panel (R30, R32, R59 to R68, R74, R75). -/

namespace Sys2Proof.Machine

/-! ### A button -/

theorem settle_horn (s : State) : (settle s).ann.horn = s.ann.horn := congrArg (fun a => a.horn) (settle_ann s)
theorem settle_test (s : State) : (settle s).ann.test = s.ann.test := congrArg (fun a => a.test) (settle_ann s)
theorem settle_phase (s : State) : (settle s).ann.phase = s.ann.phase := congrArg (fun a => a.phase) (settle_ann s)
theorem settle_scope (s : State) : (settle s).ann.scope = s.ann.scope := congrArg (fun a => a.scope) (settle_ann s)
theorem settle_operatorDropped (s : State) : (settle s).ann.operatorDropped = s.ann.operatorDropped :=
  congrArg (fun a => a.operatorDropped) (settle_ann s)

/-- The button record after its timer has run out (R30). -/
def buttonTaken (k : Button) (s : State) : State := s.setButton k { pressed := s.sensedButton k, timer := .stopped }

theorem buttonExpiry_of_running {k : Button} {s : State} (h : (s.button k).timer.isRunning = true) :
    buttonExpiry k s =
      if s.sensedButton k = (s.button k).pressed then buttonTaken k s else buttonEvent k (s.sensedButton k) (buttonTaken k s) := by
  rw [buttonExpiry, if_pos h]
  rfl

theorem button_buttonTaken (k : Button) (s : State) :
    (buttonTaken k s).button k = { pressed := s.sensedButton k, timer := .stopped } := by
  rw [buttonTaken, button_setButton, if_pos rfl]

/-- What a press of SILENCE, a move of TEST and a release make of the panel (R32, R74, R75). -/
def panelAfter (k : Button) (s : State) : Annunciation :=
  { s.ann with
    horn := if k = .silence ∧ s.sensedButton k = true ∧ (s.button k).pressed = false then false else s.ann.horn,
    test := if k = .test then (if s.sensedButton k = (s.button k).pressed then s.ann.test else s.sensedButton k) else s.ann.test }

theorem buttonExpiry_panel {k : Button} {s : State} (h : (s.button k).timer.isRunning = true)
    (hk : k = .silence ∨ k = .test ∨ s.sensedButton k = false) : buttonExpiry k s = (buttonTaken k s).withAnn (panelAfter k s) := by
  rw [buttonExpiry_of_running h, panelAfter]
  by_cases hsame : s.sensedButton k = (s.button k).pressed
  · rw [if_pos hsame]
    have hhorn : ¬(k = .silence ∧ s.sensedButton k = true ∧ (s.button k).pressed = false) := fun ⟨_, hp, hn⟩ => by
      simp [← hsame, hp] at hn
    rw [if_neg hhorn, if_pos hsame, ite_self]
    rfl
  · rw [if_neg hsame]
    cases hsensed : s.sensedButton k with
    | true =>
      have hbefore : (s.button k).pressed = false := by simpa [hsensed] using hsame
      obtain rfl | rfl | hrel := hk
      · simp [hbefore, buttonEvent, clearHorn, buttonTaken]
      · simp [hbefore, buttonEvent, setTest, buttonTaken]
      · exact absurd (hsensed.symm.trans hrel) (by simp)
    | false =>
      have hbefore : (s.button k).pressed = true := by simpa [hsensed] using hsame
      rw [hbefore]
      cases k <;> rfl

/-- Settles O17: the panel alone moves, and no cause does. -/
theorem silenceTestAndReleasesActOnThePanelAlone : Obligations.SilenceTestAndReleasesActOnThePanelAlone := by
  intro k s ha hsettled hrunning hk
  refine ⟨_, whenActive_next ha, ?_⟩
  rw [buttonExpiry_panel hrunning hk, finish_settled ((buttonTaken k s).withAnn (panelAfter k s)) hsettled]
  refine ⟨?_, settle_horn _, settle_test _, ?_⟩
  · rw [State.button, settle_monitor]
    exact button_buttonTaken k s
  · refine ⟨by simp [buttonTaken], by simp [buttonTaken], by simp [buttonTaken], by simp [buttonTaken], by simp [buttonTaken],
      by simp [buttonTaken], by simp [buttonTaken], by simp [buttonTaken], ?_, settle_phase _, settle_scope _,
      settle_operatorDropped _⟩
    rw [settle_monitor]
    rfl

end Sys2Proof.Machine

/-! PROOFS. The table's entries and slots after REPORT contents (R37 to R41), and the hand-over of a change (R12, R94). -/

namespace Sys2Proof.Machine

/-! ### The entry of a condition after a primitive change -/

theorem find_removeEntry (me : Option StationNo) (c d : Condition) (ch : Change) :
    (removeEntry me c ch).table.find d = if d = c then none else ch.table.find d := by
  unfold AlarmTable.find
  rw [removeEntry_entries]
  split
  · next hd =>
    rw [List.find?_eq_none]
    intro e he
    have hne := List.of_mem_filter he
    rw [hd]
    simpa using hne
  · next hd =>
    rw [List.find?_filter]
    congr 1
    funext e
    by_cases he : e.condition = d
    · simp [he, hd]
    · simp [he]

theorem find_rewriteEntry (e : Entry) (f : Entry → Entry) (ch : Change) (hf : ∀ x, (f x).condition = x.condition) (d : Condition) :
    (rewriteEntry e f ch).table.find d = (ch.table.find d).map (fun x => if x.condition = e.condition then f x else x) := by
  show (ch.table.entries.map _).find? _ = _
  rw [List.find?_map]
  unfold AlarmTable.find
  congr 2
  funext x
  simp only [Function.comp_apply]
  split
  · rw [hf]
  · rfl

theorem find_append_new (es : List Entry) (e : Entry) (t : AlarmTable) (d : Condition) (ht : t.entries = es ++ [e]) :
    t.find d = (es.find? (fun x => x.condition == d)).or (if e.condition = d then some e else none) := by
  unfold AlarmTable.find
  rw [ht, List.find?_append]
  by_cases h : e.condition = d <;> simp [h]

/-! ### The entry of a condition after REPORT contents (R37 to R39) -/

theorem applyContents_of_normal {me : Option StationNo} {give : Bool} {src : StationNo} {r : PointReport} (ch : Change)
    (h : entryState? r.state = none) : applyContents me give src r ch = removeEntry me ⟨src, r.point⟩ ch := by
  rw [applyContents, h]

theorem applyContents_of_held {me : Option StationNo} {give : Bool} {src : StationNo} {r : PointReport} {st : EntryState} {e : Entry}
    {ch : Change} (h : entryState? r.state = some st) (hf : ch.table.find ⟨src, r.point⟩ = some e) :
    applyContents me give src r ch = updateEntry e r st ch := by
  simp only [applyContents, h, hf]

theorem applyContents_of_new {me : Option StationNo} {give : Bool} {src : StationNo} {r : PointReport} {st : EntryState}
    {ch : Change} (h : entryState? r.state = some st) (hf : ch.table.find ⟨src, r.point⟩ = none) :
    applyContents me give src r ch = createEntry me give src r st ch := by
  simp only [applyContents, h, hf]

/-- The contents of one condition leave the entry of every other. -/
theorem find_applyContents_of_ne {me : Option StationNo} {give : Bool} {src : StationNo} {r : PointReport} (ch : Change)
    {d : Condition} (hd : d ≠ ⟨src, r.point⟩) : (applyContents me give src r ch).table.find d = ch.table.find d := by
  unfold applyContents
  split
  · rw [find_removeEntry, if_neg hd]
  · next st _ =>
    split
    · next e he =>
      unfold updateEntry
      split
      · rfl
      · rw [find_rewriteEntry e (fun x => x.take r st) ch (fun _ => rfl), condition_of_find he]
        cases hfind : ch.table.find d with
        | none => rfl
        | some x =>
          have hx : x.condition ≠ ⟨src, r.point⟩ := condition_of_find hfind ▸ hd
          rw [Option.map_some, if_neg hx]
    · next hnone =>
      obtain ⟨_, heq⟩ | ⟨_, heq⟩ := createEntry_cases me give src r st ch
      · rw [heq]
        rfl
      · have hentries := congrArg AlarmTable.entries heq
        rw [find_append_new _ _ _ d hentries, if_neg fun h => hd h.symm, Option.or_none]
        rfl

/-- R37: contents in NORMAL leave no entry. -/
theorem find_applyContents_normal {me : Option StationNo} {give : Bool} {src : StationNo} {r : PointReport} (ch : Change)
    (h : entryState? r.state = none) : (applyContents me give src r ch).table.find ⟨src, r.point⟩ = none := by
  rw [applyContents_of_normal ch h, find_removeEntry, if_pos rfl]

/-- R38, R39: other contents leave an entry in their state, at their revision, unless it is dropped for want of a place. -/
theorem find_applyContents_some {me : Option StationNo} {give : Bool} {src : StationNo} {r : PointReport} {st : EntryState}
    {ch : Change} (h : entryState? r.state = some st)
    (hroom : some src = me ∨ (ch.table.find ⟨src, r.point⟩).isSome = true ∨ occupancy me ch.table.entries < sharedPlaces) :
    ∃ e, (applyContents me give src r ch).table.find ⟨src, r.point⟩ = some e ∧ e.state = st ∧ e.revision = r.revision := by
  cases hf : ch.table.find ⟨src, r.point⟩ with
  | some e =>
    rw [applyContents_of_held h hf, updateEntry]
    split
    · next hsame => exact ⟨e, hf, hsame⟩
    · rw [find_rewriteEntry e (fun x => x.take r st) ch (fun _ => rfl), hf, Option.map_some, if_pos rfl]
      exact ⟨_, rfl, rfl, rfl⟩
  | none =>
    rw [applyContents_of_new h hf]
    obtain ⟨⟨hother, hfull⟩, _⟩ | ⟨_, heq⟩ := createEntry_cases me give src r st ch
    · obtain hown | hheld | hfree := hroom
      · exact absurd hown hother
      · simp [hf] at hheld
      · omega
    · have hentries := congrArg AlarmTable.entries heq
      refine ⟨newEntry src r st, ?_, rfl, rfl⟩
      have hnone : ch.table.entries.find? (fun x => x.condition == ⟨src, r.point⟩) = none := hf
      rw [find_append_new _ _ _ ⟨src, r.point⟩ hentries, hnone, Option.none_or]
      exact if_pos rfl

theorem rewriteEntry_slot {e : Entry} {f : Entry → Entry} {ch : Change} {g : GroupNo} {c : Condition}
    (h : (rewriteEntry e f ch).table.slots[g] = some c) : ch.table.slots[g] = some c := by
  rw [rewriteEntry_slots] at h
  split at h
  · rw [slots_set_get] at h
    split at h
    · cases h
    · exact h
  · exact h

/-- R41: contents that give no slot only empty slots. -/
theorem applyContents_slots {me : Option StationNo} {src : StationNo} {r : PointReport} {ch : Change} {g : GroupNo} {c : Condition}
    (h : (applyContents me false src r ch).table.slots[g] = some c) : ch.table.slots[g] = some c := by
  unfold applyContents at h
  split at h
  · cases hf : ch.table.find ⟨src, r.point⟩ with
    | none => rwa [removeEntry_of_none hf] at h
    | some e =>
      rw [removeEntry_table_of_find hf, slotsWithout, slots_map_get] at h
      split at h
      · cases h
      · exact h
  · next st _ =>
    split at h
    · next e he =>
      unfold updateEntry at h
      split at h
      · exact h
      · exact rewriteEntry_slot h
    · obtain ⟨_, heq⟩ | ⟨_, heq⟩ := createEntry_cases me false src r st ch
      · rw [heq] at h
        exact h
      · rw [heq] at h
        simpa using h

/-! ### The report mark (R94) -/

theorem reportMark_of_link {s t : State} (h : t.link = s.link) (p : PointNo) : t.reportMark p = s.reportMark p := by
  simp only [State.reportMark, h]

theorem reportMark_ne_none_iff (s : State) (p : PointNo) : s.reportMark p ≠ .none ↔ ∃ m ∈ s.link.lanes.report, m.point = p := by
  unfold State.reportMark
  cases hf : s.link.lanes.report.find? (fun m => m.point == p) with
  | none =>
    rw [List.find?_eq_none] at hf
    simpa using hf
  | some m =>
    have hm : m.point = p := by simpa using List.find?_some hf
    have hmem := List.mem_of_find?_eq_some hf
    refine ⟨fun _ => ⟨m, hmem, hm⟩, fun _ => ?_⟩
    dsimp only
    split <;> simp

/-- A change in a state that marks, with its mark asked for. -/
theorem changePoint_link_of_marks {p : PointNo} {st : SeqState} {s : State} (h : s.marks = true) :
    (changePoint p st s).link =
      { s.link with lanes := { s.link.lanes with report := requestMark (s.onAir .report) p s.link.lanes.report } } := by
  rw [changePoint_of_marks p st s h, requestReport_link]
  rfl

theorem onAir_eq_true_iff (s : State) (lane : Lane) : s.onAir lane = true ↔ ∃ a, s.link.sending = some a ∧ a.lane = lane := by
  unfold State.onAir
  cases s.link.sending with
  | none => simp
  | some a => simp

/-- A change outside the states that mark is delivered in its own table. -/
theorem changePoint_of_no_marks {p : PointNo} {st : SeqState} {s : State} {n : StationNo} (hme : s.me = some n)
    (h : s.marks = false) :
    (changePoint p st s).link = s.link ∧
      (changePoint p st s).table =
        (applyContents (some n) false n
          ((s.setPoint p { s.point p with state := st, revision := (s.point p).revision + 1#8 }).contents p) ⟨s.table, []⟩).table := by
  have hmarks : (s.setPoint p { s.point p with state := st, revision := (s.point p).revision + 1#8 }).marks = false := h
  have hown : (s.setPoint p { s.point p with state := st, revision := (s.point p).revision + 1#8 }).me = some n := hme
  rw [changePoint, handOver, hmarks, if_neg (by decide), localDeliver, hown]
  exact ⟨takeChange_link _ _, takeChange_table _ _⟩

theorem contents_state_revision (p : PointNo) (r : PointRecord) (s : State) :
    ((s.setPoint p r).contents p).state = r.state ∧ ((s.setPoint p r).contents p).revision = r.revision := by
  have hpoint : (s.setPoint p r).point p = r := by rw [point_setPoint, if_pos rfl]
  simp only [State.contents, hpoint, and_self]

/-- Settles O16: a mark's three cases are those of `requestMark`, and a local delivery is the contents applied. -/
theorem changesAreHandedOver : Obligations.ChangesAreHandedOver := by
  intro p st s n hme
  refine ⟨fun hmarks => ?_, fun hmarks => ?_⟩
  · have hlink := changePoint_link_of_marks (p := p) (st := st) hmarks
    have hheld : ∃ m ∈ (changePoint p st s).link.lanes.report, m.point = p := by
      rw [hlink]
      by_cases hp : ∃ m ∈ s.link.lanes.report, m.point = p
      · by_cases hw : ∀ m rest, s.onAir .report = true → s.link.lanes.report = m :: rest → m.point ≠ p
        · rwa [requestMark_waiting _ p _ hp hw]
        · push Not at hw
          obtain ⟨m, rest, hair, hlane, hm⟩ := hw
          rw [hair, hlane, requestMark_sent p m rest hm]
          exact ⟨_, List.mem_cons_self, hm⟩
      · push Not at hp
        rw [requestMark_unmarked _ p _ hp]
        exact ⟨freshMark p, by simp, rfl⟩
    refine ⟨?_, (reportMark_ne_none_iff _ p).mpr hheld, fun hnew => ?_, fun a m rest hsend hlane hreport hm => ?_, fun hp hwait => ?_⟩
    · rw [changePoint_of_marks p st s hmarks]
      rfl
    · rw [hlink, requestMark_unmarked _ p _ hnew]
      refine ⟨rfl, ?_⟩
      have hfind : s.link.lanes.report.find? (fun m => m.point == p) = none := by
        rw [List.find?_eq_none]
        simpa using hnew
      rw [State.reportMark, hlink, requestMark_unmarked _ p _ hnew]
      simp [List.find?_append, hfind, freshMark]
    · have hair : s.onAir .report = true := (onAir_eq_true_iff s .report).mpr ⟨a, hsend, hlane⟩
      have hsent : requestMark (s.onAir .report) p s.link.lanes.report = { m with again := true } :: rest := by
        rw [hair, hreport, requestMark_sent p m rest hm]
      rw [State.reportMark, hlink, hsent]
      exact ⟨rfl, by simp [hm]⟩
    · have hsame : requestMark (s.onAir .report) p s.link.lanes.report = s.link.lanes.report := by
        refine requestMark_waiting _ p _ hp fun m rest hair hreport hm => hwait ?_
        obtain ⟨a, hsend, hlane⟩ := (onAir_eq_true_iff s .report).mp hair
        exact ⟨a, m, rest, hsend, hlane, hreport, hm⟩
      rw [hsame] at hlink
      exact ⟨hlink, reportMark_of_link hlink p⟩
  · obtain ⟨hlink, htable⟩ := changePoint_of_no_marks (p := p) (st := st) hme hmarks
    obtain ⟨hstate, hrev⟩ := contents_state_revision p { s.point p with state := st, revision := (s.point p).revision + 1#8 } s
    rw [htable]
    refine ⟨hlink, fun g c hslot => applyContents_slots hslot, fun hnormal => ?_, fun est hest => ?_⟩
    · exact find_applyContents_normal _ (by rw [hstate, hnormal]; rfl)
    · obtain ⟨e, hfind, hst, hrevision⟩ := find_applyContents_some (ch := ⟨s.table, []⟩) ((congrArg entryState? hstate).trans hest) (.inl rfl)
      exact ⟨e, hfind, hst, hrevision.trans hrev⟩

end Sys2Proof.Machine

/-! PROOFS. A press of ACK or RESTORE (R60 to R64, R68). -/

namespace Sys2Proof.Machine

/-! ### What own changes leave of the causes (R17, R55) -/

/-- R54, R55 for the own table. -/
def State.ownLawful (s : State) : Prop := overflowLaw s.me s.table

/-- A state with the same control and causes, and lawful flags still. -/
def State.causesKept (s t : State) : Prop :=
  t.control = s.control ∧ (t.anyCause = s.anyCause ∧ t.engine.healthLevel = s.engine.healthLevel) ∧ t.ownLawful

theorem State.causesKept_trans {s t u : State} (h : s.causesKept t) (h' : t.causesKept u) : s.causesKept u := by
  obtain ⟨hc, ⟨ha, hl⟩, _⟩ := h
  obtain ⟨hc', ⟨ha', hl'⟩, hlaw⟩ := h'
  exact ⟨hc'.trans hc, ⟨ha'.trans ha, hl'.trans hl⟩, hlaw⟩

theorem handOver_causesKept {s : State} (p : PointNo) (h : s.ownLawful) : s.causesKept (handOver p s) := by
  refine ⟨handOver_control p s, ⟨anyCause_handOver p h, handOver_healthLevel p s⟩, ?_⟩
  rw [State.ownLawful, me_of_control (handOver_control p s)]
  cases hme : s.me with
  | none =>
    have htable : (handOver p s).table = s.table := by
      unfold handOver localDeliver
      rw [hme]
      split <;> rfl
    rw [htable, ← hme]
    exact h
  | some n =>
    have hlaw : overflowLaw (some n) s.table := hme ▸ h
    rwa [← overflowLaw_apartFrom, handOver_apartFrom p hme hlaw, overflowLaw_apartFrom]

theorem changePoint_causesKept {s : State} (p : PointNo) (st : SeqState) (h : s.ownLawful) : s.causesKept (changePoint p st s) :=
  handOver_causesKept (s := s.setPoint p { s.point p with state := st, revision := (s.point p).revision + 1#8 }) p h

theorem takeItem_causesKept {s : State} (a : Action) (i : Item) (h : s.ownLawful) : s.causesKept (takeItem a s i) := by
  unfold takeItem
  split
  · exact changePoint_causesKept _ _ h
  · exact ⟨rfl, ⟨rfl, rfl⟩, h⟩

theorem itemsFold_causesKept {s : State} (a : Action) (items : List Item) (h : s.ownLawful) :
    s.causesKept (items.foldl (takeItem a) s) := by
  induction items generalizing s with
  | nil => exact ⟨rfl, ⟨rfl, rfl⟩, h⟩
  | cons i rest ih =>
    have hstep := takeItem_causesKept a i h
    exact State.causesKept_trans hstep (ih hstep.2.2)

theorem takeItems_causesKept {s : State} (a : Action) (items : List Item) (h : s.ownLawful) : s.causesKept (takeItems a items s) := by
  unfold takeItems
  split
  · exact itemsFold_causesKept a items h
  · exact ⟨rfl, ⟨rfl, rfl⟩, h⟩

/-! ### Items change the engine by the engine alone -/

theorem itemMove?_congr {s t : State} (hc : t.control = s.control) (he : t.engine = s.engine) (a : Action) (i : Item) :
    t.itemMove? a i = s.itemMove? a i := by
  simp only [State.itemMove?, point_of_engine he, groupOptions_of_control hc]

theorem takeItem_engine_congr {s t : State} (hc : t.control = s.control) (he : t.engine = s.engine) (a : Action) (i : Item) :
    (takeItem a t i).engine = (takeItem a s i).engine := by
  have hmove := itemMove?_congr hc he a i
  cases hm : s.itemMove? a i with
  | none => rw [takeItem_of_no_move hm, takeItem_of_no_move (hmove.trans hm), refuseItem_engine, refuseItem_engine, he]
  | some st =>
    rw [takeItem_of_move hm, takeItem_of_move (hmove.trans hm), changePoint_engine, changePoint_engine, he, point_of_engine he]

theorem itemsFold_engine_congr {s t : State} (hc : t.control = s.control) (he : t.engine = s.engine) (a : Action) (items : List Item) :
    (items.foldl (takeItem a) t).engine = (items.foldl (takeItem a) s).engine := by
  induction items generalizing s t with
  | nil => exact he
  | cons i rest ih => exact ih (by simp [hc]) (takeItem_engine_congr hc he a i)

theorem takeItems_engine_congr {s t : State} (hc : t.control = s.control) (he : t.engine = s.engine) (a : Action) (items : List Item) :
    (takeItems a items t).engine = (takeItems a items s).engine := by
  unfold takeItems
  rw [active_of_control hc]
  split
  · exact itemsFold_engine_congr hc he a items
  · exact he

/-! ### What items leave of the panel and the OPERATOR lane -/

theorem handOver_operatorDropped (p : PointNo) (s : State) : (handOver p s).ann.operatorDropped = s.ann.operatorDropped := by
  unfold handOver localDeliver
  split
  · rfl
  · split
    · rw [takeChange_ann]
    · rfl

theorem handOver_scope (p : PointNo) (s : State) : (handOver p s).ann.scope = s.ann.scope := by
  unfold handOver localDeliver
  split
  · rfl
  · split
    · rw [takeChange_ann]
    · rfl

theorem takeItem_operatorDropped (a : Action) (s : State) (i : Item) :
    (takeItem a s i).ann.operatorDropped = s.ann.operatorDropped := by
  unfold takeItem
  split
  · exact handOver_operatorDropped _ (s.setPoint i.point _)
  · rfl

theorem takeItem_scope (a : Action) (s : State) (i : Item) : (takeItem a s i).ann.scope = s.ann.scope := by
  unfold takeItem
  split
  · exact handOver_scope _ (s.setPoint i.point _)
  · rfl

theorem takeItems_operatorDropped (a : Action) (items : List Item) (s : State) :
    (takeItems a items s).ann.operatorDropped = s.ann.operatorDropped := by
  unfold takeItems
  split
  · induction items generalizing s with
    | nil => rfl
    | cons i rest ih =>
      exact (ih _ (by rwa [active_of_control (takeItem_control a s i)])).trans (takeItem_operatorDropped a s i)
  · rfl

theorem operator_of_marksMore {k l : LinkController} (h : k.marksMore l) : l.lanes.operator = k.lanes.operator := by
  obtain ⟨marks, heq, _⟩ := h
  rw [heq]

theorem takeOwnItems_of_me {a : Action} {snap : List Entry} {s : State} {n : StationNo} (h : s.me = some n) :
    takeOwnItems a snap s = takeItems a (itemsFor n snap) s := by
  rw [takeOwnItems, h]

/-! ### The owner groups (R66 to R68) -/

/-- What a group is placed by, and where: the OPERATOR lane and its drop counter. -/
def State.groups (s : State) : List OperatorEntry × Counter := (s.link.lanes.operator, s.ann.operatorDropped)

theorem placeGroup_groups_congr {s t : State} (h : t.groups = s.groups) (a : Action) (snap : List Entry) (o : StationNo) :
    (placeGroup a snap t o).groups = (placeGroup a snap s o).groups := by
  obtain ⟨hlane, hdropped⟩ := Prod.mk.inj h
  unfold placeGroup
  rw [hlane]
  split
  · exact congrArg (Prod.mk _) hdropped
  · split
    · exact congrArg (Prod.mk _) hdropped
    · exact Prod.ext hlane (congrArg Counter.bump hdropped)

theorem placeGroups_groups {a : Action} {snap : List Entry} {s u : State} (hgroups : u.groups = s.groups) (hc : u.control = s.control) :
    (s.control.station.silent = false →
      (placeGroups a snap u).groups = ((remoteOwners s.me snap).foldl (placeGroup a snap) s).groups) ∧
    (s.control.station.silent = true →
      (placeGroups a snap u).groups =
        (s.link.lanes.operator, Counter.bumpBy (remoteOwners s.me snap).length s.ann.operatorDropped)) := by
  unfold placeGroups
  rw [me_of_control hc]
  generalize remoteOwners s.me snap = owners
  refine ⟨fun hsilent => ?_, fun hsilent => ?_⟩
  · induction owners generalizing s u with
    | nil => exact hgroups
    | cons o rest ih =>
      rw [List.foldl_cons, List.foldl_cons, if_neg (by simp [hc, hsilent])]
      exact ih (placeGroup_groups_congr hgroups a snap o) (by simp [hc]) (by simpa using hsilent)
  · induction owners generalizing s u with
    | nil => exact hgroups
    | cons o rest ih =>
      rw [List.foldl_cons, if_pos (by simp [hc, hsilent])]
      obtain ⟨hlane, hdropped⟩ := Prod.mk.inj hgroups
      exact ih (s := countOperatorDrop s) (Prod.ext hlane (congrArg Counter.bump hdropped)) hc hsilent

theorem placeGroups_horn (a : Action) (snap : List Entry) (s : State) : (placeGroups a snap s).ann.horn = s.ann.horn := by
  refine placeGroups_keeps (fun t => t.ann.horn) (fun a snap s o => ?_) (fun s => rfl) a snap s
  unfold placeGroup
  split
  · rfl
  · split <;> rfl

/-! ### The horn latch at a RESTORE press (R158, R159) -/

/-- No entry of a condition calls for the horn. -/
def AlarmTable.quietAt (scope : BitVec 8) (c : Condition) (t : AlarmTable) : Prop :=
  ∀ e ∈ t.entries, e.condition = c → callsHorn scope e = false

/-- The removal of an entry that does not call leaves the latch, and what calls (R158, R159). -/
theorem horn_removeEntry {s : State} {c : Condition} (h : s.table.quietAt s.ann.scope c) (hlaw : hornLaw s) :
    (takeChange (removeEntry s.me c) s).ann.horn = s.ann.horn ∧ hornLaw (takeChange (removeEntry s.me c) s) := by
  have hany : (removeEntry s.me c ⟨s.table, []⟩).table.entries.any (callsHorn s.ann.scope) =
      s.table.entries.any (callsHorn s.ann.scope) := by
    rw [removeEntry_entries, Bool.eq_iff_iff, List.any_eq_true, List.any_eq_true]
    refine ⟨fun ⟨e, he, hcalls⟩ => ⟨e, List.mem_of_mem_filter he, hcalls⟩, fun ⟨e, he, hcalls⟩ => ⟨e, ?_, hcalls⟩⟩
    refine List.mem_filter.mpr ⟨he, ?_⟩
    rw [bne_iff_ne]
    exact fun hc => by simp [h e he hc] at hcalls
  have hnotices : (removeEntry s.me c ⟨s.table, []⟩).notices.any
      (Notice.sounds s.ann.scope (removeEntry s.me c ⟨s.table, []⟩).table) = false := by
    cases hf : s.table.find c with
    | none =>
      rw [removeEntry_of_none (ch := ⟨s.table, []⟩) hf]
      rfl
    | some e =>
      rw [List.any_eq_false]
      simp only [removeEntry, hf, List.nil_append, List.forall_mem_cons]
      refine ⟨by simp [Notice.sounds], fun x hx => ?_⟩
      obtain ⟨g, _, hg⟩ := List.mem_filterMap.mp hx
      split at hg
      · cases hg
        simp [Notice.sounds]
      · cases hg
  have hhorn : (takeChange (removeEntry s.me c) s).ann.horn = s.ann.horn := by
    rw [takeChange_horn, hornAfter, hnotices, hany, Bool.or_false]
    cases hset : s.ann.horn with
    | false => rfl
    | true => rw [hlaw hset]; rfl
  refine ⟨hhorn, fun hset => ?_⟩
  rw [takeChange_table, takeChange_ann]
  exact hany.trans (hlaw (hhorn.symm.trans hset))

theorem localDeliver_of_me {s : State} {n : StationNo} {p : PointNo} (h : s.me = some n) :
    localDeliver p s = takeChange (applyContents s.me false n (s.contents p)) s := by
  unfold localDeliver
  split
  · next m hm => rw [Option.some.inj (hm.symm.trans h)]
  · next hm => cases h.symm.trans hm

theorem itemMove_restore {opt : GroupOptions} {st st' : SeqState} (h : itemMove opt st .restore = some st') : st' = .normal := by
  cases st <;> simp_all [itemMove]

/-- A RESTORE item of an entry that does not call leaves the latch (R8, R158). -/
theorem takeItem_restore_horn {s : State} {i : Item} {n : StationNo} (hme : s.me = some n)
    (h : s.table.quietAt s.ann.scope ⟨n, i.point⟩) (hlaw : hornLaw s) :
    (takeItem .restore s i).ann.horn = s.ann.horn ∧ hornLaw (takeItem .restore s i) ∧
      ∀ e ∈ (takeItem .restore s i).table.entries, e ∈ s.table.entries := by
  cases hm : s.itemMove? .restore i with
  | none =>
    rw [takeItem_of_no_move hm]
    exact ⟨rfl, hlaw, fun _ he => he⟩
  | some st =>
    have hst : st = .normal := by
      unfold State.itemMove? at hm
      split at hm
      · exact itemMove_restore hm
      · cases hm
    subst hst
    rw [takeItem_of_move hm, changePoint]
    generalize hu : s.setPoint i.point { s.point i.point with state := .normal, revision := (s.point i.point).revision + 1#8 } = u
    have hstate : (u.contents i.point).state = .normal := by
      rw [← hu]
      exact (contents_state_revision i.point _ s).1
    have hown : u.me = some n := hu ▸ hme
    have hquiet : u.table.quietAt u.ann.scope ⟨n, i.point⟩ := hu ▸ h
    have hhorn : hornLaw u := hu ▸ hlaw
    have hsame : u.ann = s.ann ∧ u.table = s.table := by subst hu; exact ⟨rfl, rfl⟩
    obtain ⟨hann, htable⟩ := hsame
    rw [← hann, ← htable]
    unfold handOver
    split
    · exact ⟨rfl, hhorn, fun _ he => he⟩
    · have happly : applyContents u.me false n (u.contents i.point) = removeEntry u.me ⟨n, i.point⟩ := by
        funext ch
        exact applyContents_of_normal ch (by rw [hstate]; rfl)
      rw [localDeliver_of_me hown, happly]
      obtain ⟨hkept, hkeptLaw⟩ := horn_removeEntry hquiet hhorn
      refine ⟨hkept, hkeptLaw, fun e he => ?_⟩
      rw [takeChange_table, removeEntry_entries] at he
      exact List.mem_of_mem_filter he

theorem itemsFold_restore_horn {items : List Item} {s : State} {n : StationNo} (hme : s.me = some n)
    (h : ∀ i ∈ items, s.table.quietAt s.ann.scope ⟨n, i.point⟩) (hlaw : hornLaw s) :
    (items.foldl (takeItem .restore) s).ann.horn = s.ann.horn := by
  induction items generalizing s with
  | nil => rfl
  | cons i rest ih =>
    obtain ⟨hfirst, hrest⟩ := List.forall_mem_cons.mp h
    obtain ⟨hhorn, hlaw', hkept⟩ := takeItem_restore_horn hme hfirst hlaw
    refine (ih (by rw [me_of_control (takeItem_control ..), hme]) (fun j hj e he hc => ?_) hlaw').trans hhorn
    rw [takeItem_scope]
    exact hrest j hj e (hkept e he) hc

/-- In a state that marks, items leave the panel. -/
theorem takeItem_ann_of_marks {s : State} (h : s.marks = true) (a : Action) (i : Item) :
    (takeItem a s i).ann = s.ann ∧ (takeItem a s i).marks = true := by
  unfold takeItem
  split
  · rw [changePoint_of_marks _ _ s h]
    exact ⟨rfl, h⟩
  · exact ⟨rfl, h⟩

theorem itemsFold_ann_of_marks {s : State} (h : s.marks = true) (a : Action) (items : List Item) :
    (items.foldl (takeItem a) s).ann = s.ann := by
  induction items generalizing s with
  | nil => rfl
  | cons i rest ih =>
    obtain ⟨hann, hmarks⟩ := takeItem_ann_of_marks h a i
    exact (ih hmarks).trans hann

/-- The own items of a RESTORE snapshot are of entries in RINGBACK (R60). -/
theorem quietAt_of_snapshot {t : AlarmTable} {me : Option StationNo} (ht : tableLaw me t) {scope : BitVec 8} {n : StationNo}
    {i : Item} (hi : i ∈ itemsFor n (snapshot scope .restore t)) : t.quietAt scope ⟨n, i.point⟩ := by
  obtain ⟨e, he, rfl⟩ := List.mem_map.mp hi
  obtain ⟨hsnap, howner⟩ := List.mem_filter.mp he
  obtain ⟨hmem, hselected⟩ := List.mem_filter.mp hsnap
  have hringback : e.state = .ringback := by
    simp only [selects, Bool.and_eq_true, beq_iff_eq] at hselected
    exact hselected.2
  intro x hx hc
  have hcond : x.condition = e.condition := by
    rw [hc, Entry.condition, ← show e.owner = n by simpa using howner]
    rfl
  rw [entry_unique ht hmem hx hcond]
  simp [callsHorn, hringback]

/-! ### The press -/

theorem mem_snapshot (scope : BitVec 8) (a : Action) (t : AlarmTable) (e : Entry) :
    e ∈ snapshot scope a t ↔
      e ∈ t.entries ∧ scope.getLsbD e.group.val = true ∧ e.stale = false ∧
        ((a = .ack ∧ (e.state = .alert ∨ e.state = .unackCleared)) ∨ (a = .restore ∧ e.state = .ringback)) := by
  rw [snapshot, List.mem_filter]
  cases a <;> simp [selects, and_assoc]

/-- What the items and the groups of a press make of a state, before the latch (R62). -/
theorem pressItems_facts {a : Action} {s : State} {n : StationNo} (hme : s.me = some n) (hlaw : s.ownLawful) :
    s.causesKept (pressItems a s) ∧
      (pressItems a s).engine = (takeItems a (itemsFor n (snapshot s.ann.scope a s.table)) s).engine ∧
      (pressItems a s).ann.horn = (takeItems a (itemsFor n (snapshot s.ann.scope a s.table)) s).ann.horn := by
  have howned := takeItems_causesKept a (itemsFor n (snapshot s.ann.scope a s.table)) hlaw
  have hplaced (u : State) (hu : u.ownLawful) : u.causesKept (placeGroups a (snapshot s.ann.scope a s.table) u) := by
    refine ⟨placeGroups_control a _ u, ⟨?_, by rw [placeGroups_engine]⟩, ?_⟩
    · have hlampFault := placeGroups_keeps (fun t => t.ann.readback) (fun a snap s o => by
        unfold placeGroup
        split
        · rfl
        · split <;> rfl) (fun _ => rfl) a (snapshot s.ann.scope a s.table) u
      have hlink := placeGroups_keeps (fun t => t.link.degraded) (fun a snap s o => by
        obtain ⟨lane, hl, _⟩ := placeGroup_link a snap s o
        rw [hl]) (fun _ => rfl) a (snapshot s.ann.scope a s.table) u
      simp only [State.anyCause, State.lampFault, State.repairFailed, hlampFault, hlink, placeGroups_table,
        placeGroups_repair]
    · rw [State.ownLawful, me_of_control (placeGroups_control ..), placeGroups_table]
      exact hu
  rw [pressItems, takeOwnItems_of_me hme]
  exact ⟨State.causesKept_trans howned (hplaced _ howned.2.2), placeGroups_engine .., placeGroups_horn ..⟩

/-- A state whose horn latch an ACK press clears and a RESTORE press leaves. -/
def latched (k : Button) (u : State) : State := u.withAnn { u.ann with horn := !decide (k = .ack) && u.ann.horn }

/-- A button event of ACK or RESTORE, with its action. -/
theorem buttonEvent_press {k : Button} {a : Action} (h : (k = .ack ∧ a = .ack) ∨ (k = .restore ∧ a = .restore)) (s : State) :
    buttonEvent k true s = latched k (pressItems a s) := by
  obtain ⟨rfl, rfl⟩ | ⟨rfl, rfl⟩ := h <;> rfl

/-- Settles O18: the press's causes stay as the monitor last took them, so that the command ends with what `pressItems` makes. -/
theorem pressTakesSnapshot : Obligations.PressTakesSnapshot := by
  intro k a s n hk ha hme hsettled hlaw hrunning hsensed hbefore
  refine ⟨_, whenActive_next ha, ?_⟩
  rw [buttonExpiry_of_running hrunning, hsensed, hbefore, if_neg (by decide), buttonEvent_press hk]
  obtain ⟨⟨hcontrol, ⟨hcauses, hlevel⟩, _⟩, hengine, hhorn⟩ := pressItems_facts (a := a) (s := buttonTaken k s) hme hlaw
  have hcauses : (pressItems a (buttonTaken k s)).anyCause = s.anyCause := hcauses
  have hlevel : (pressItems a (buttonTaken k s)).engine.healthLevel = s.engine.healthLevel := hlevel
  rw [finish_settled (latched k (pressItems a (buttonTaken k s))) (hcauses.trans (hsettled.trans hlevel.symm))]
  have hgroups : (takeOwnItems a (snapshot s.ann.scope a s.table) (buttonTaken k s)).groups = s.groups := by
    refine Prod.ext (operator_of_marksMore (takeOwnItems_marksMore a _ (buttonTaken k s))) ?_
    rw [takeOwnItems_of_me (s := buttonTaken k s) hme]
    exact takeItems_operatorDropped a _ (buttonTaken k s)
  obtain ⟨hplaced, hdropped⟩ := placeGroups_groups (a := a) (snap := snapshot s.ann.scope a s.table) hgroups
    (takeOwnItems_control a _ (buttonTaken k s))
  refine ⟨?_, ?_, ?_, mem_snapshot _ a _, ?_, fun hsilent => ?_, fun hsilent => ?_, fun st => ?_, ?_⟩
  · rintro rfl
    rw [settle_horn]
    rfl
  · rintro rfl hkept
    obtain rfl : a = .restore := by simpa using hk
    rw [settle_horn]
    refine (show _ = (pressItems .restore (buttonTaken .restore s)).ann.horn from rfl).trans (hhorn.trans ?_)
    rw [takeItems, if_pos (show (buttonTaken .restore s).active = true from ha)]
    obtain hmarks | ⟨htable, hhornLaw⟩ := hkept
    · rw [itemsFold_ann_of_marks (s := buttonTaken .restore s) hmarks]
      rfl
    · exact itemsFold_restore_horn (s := buttonTaken .restore s) hme (fun i hi => quietAt_of_snapshot htable hi) hhornLaw
  · rw [State.button, settle_monitor, latched, withAnn_monitor, pressItems_monitor]
    exact (button_buttonTaken k s).trans (by rw [hsensed])
  · rw [settle_engine]
    exact hengine.trans (takeItems_engine_congr (s := s) (t := buttonTaken k s) rfl rfl a _)
  · rw [settle_link, settle_operatorDropped]
    exact Prod.mk.inj (hplaced hsilent)
  · rw [settle_link, settle_operatorDropped]
    exact Prod.mk.inj (hdropped hsilent)
  · cases st <;> simp [StationState.silent]
  · refine ⟨?_, ?_, ?_, ?_⟩ <;> simp [latched, buttonTaken]

end Sys2Proof.Machine

/-! PROOFS. The owner groups of a press (R61, R66, R67). -/

namespace Sys2Proof.Machine

/-! ### The order of the owners -/

theorem firsts_append_single (l : List StationNo) (o : StationNo) :
    firsts (l ++ [o]) = if o ∈ firsts l then firsts l else firsts l ++ [o] := by
  simp [firsts, List.foldl_append]

theorem remoteOwners_append (me : Option StationNo) (snap : List Entry) (e : Entry) :
    remoteOwners me (snap ++ [e]) =
      if me = some e.owner ∨ e.owner ∈ remoteOwners me snap then remoteOwners me snap else remoteOwners me snap ++ [e.owner] := by
  unfold remoteOwners
  rw [List.map_append, List.filter_append]
  by_cases hme : me = some e.owner
  · simp [hme]
  · have hother : (some e.owner != me) = true := by simpa using fun h => hme h.symm
    simp only [List.map_cons, List.map_nil, List.filter_cons, hother, if_true, List.filter_nil, firsts_append_single, hme, false_or]

/-! ### A merge (R66) -/

theorem mergeItem_held {items : List Item} {i : Item} (h : i.point ∈ items.map (fun x => x.point)) :
    mergeItem items i = items.map (fun x => if x.point = i.point then i else x) := by
  rw [mergeItem, if_pos (by simpa using h)]

theorem mergeItem_new {items : List Item} {i : Item} (h : i.point ∉ items.map (fun x => x.point)) :
    mergeItem items i = items ++ [i] := by
  rw [mergeItem, if_neg (by simpa using h)]

/-- A merged item is in the list. -/
theorem mem_mergeItem_self (items : List Item) (i : Item) : i ∈ mergeItem items i := by
  unfold mergeItem
  split
  · next h =>
    obtain ⟨x, hx, hp⟩ := List.any_eq_true.mp h
    exact List.mem_map.mpr ⟨x, hx, if_pos (by simpa using hp)⟩
  · simp

/-- An item of another point stays in the list. -/
theorem mem_mergeItem_of_ne {items : List Item} {i j : Item} (hj : j ∈ items) (h : j.point ≠ i.point) : j ∈ mergeItem items i := by
  unfold mergeItem
  split
  · exact List.mem_map.mpr ⟨j, hj, if_neg h⟩
  · exact List.mem_append_left _ hj

/-- Every item of a group with no point twice is in the merged list. -/
theorem mem_mergeItems {group items : List Item} (h : (group.map (fun i => i.point)).Nodup) :
    ∀ i ∈ group, i ∈ group.foldl mergeItem items := by
  have hkept (rest : List Item) (held : List Item) {i : Item} (hi : i ∈ held) (hother : ∀ j ∈ rest, i.point ≠ j.point) :
      i ∈ rest.foldl mergeItem held := by
    induction rest generalizing held with
    | nil => exact hi
    | cons j rest ih =>
      obtain ⟨hj, hrest⟩ := List.forall_mem_cons.mp hother
      exact ih _ (mem_mergeItem_of_ne hi hj) hrest
  induction group generalizing items with
  | nil => simp
  | cons i rest ih =>
    rw [List.map_cons, List.nodup_cons] at h
    obtain ⟨hnew, hrest⟩ := h
    refine List.forall_mem_cons.mpr ⟨hkept rest _ (mem_mergeItem_self items i) fun j hj hp => hnew ?_, ih hrest⟩
    exact List.mem_map.mpr ⟨j, hj, hp.symm⟩

/-- The lane takes a group in the first entry that can, or in none (R66). -/
theorem mergeInto_append (o : StationNo) (a : Action) (group : List Item) (before rest : List OperatorEntry)
    (hbefore : before.any (mergeable o a) = false) :
    mergeInto o a group (before ++ rest) = (mergeInto o a group rest).map (before ++ ·) := by
  induction before with
  | nil => simp
  | cons e before ih =>
    rw [List.any_cons, Bool.or_eq_false_iff] at hbefore
    obtain ⟨he, hbefore⟩ := hbefore
    rw [List.cons_append, mergeInto, if_neg (by simp [he]), ih hbefore, Option.map_map]
    rfl

theorem mergeInto_none {o : StationNo} {a : Action} {group : List Item} {lane : List OperatorEntry}
    (h : lane.any (mergeable o a) = false) : mergeInto o a group lane = none := by
  have := mergeInto_append o a group lane [] h
  simpa [mergeInto] using this

/-- A lane with an entry that can take a group, cut at the first. -/
theorem split_mergeable {o : StationNo} {a : Action} {lane : List OperatorEntry} (h : lane.any (mergeable o a) = true) :
    ∃ before e rest, lane = before ++ e :: rest ∧ before.any (mergeable o a) = false ∧ mergeable o a e = true := by
  induction lane with
  | nil => simp at h
  | cons x lane ih =>
    cases hx : mergeable o a x with
    | true => exact ⟨[], x, lane, rfl, rfl, hx⟩
    | false =>
      rw [List.any_cons, hx, Bool.false_or] at h
      obtain ⟨before, e, rest, rfl, hbefore, he⟩ := ih h
      exact ⟨x :: before, e, rest, rfl, by rw [List.any_cons, hx, hbefore]; rfl, he⟩

theorem mergeable_iff (o : StationNo) (a : Action) (e : OperatorEntry) :
    mergeable o a e = true ↔ e.target = o ∧ e.action = a ∧ e.inTransmission = false := by
  simp [mergeable, and_assoc]

/-! ### A placed group (R66, R67) -/

/-- A group that an entry can take is merged into the first such. -/
theorem placeGroup_merged {a : Action} {snap : List Entry} {s : State} {o : StationNo} {before rest : List OperatorEntry}
    {e : OperatorEntry} (hlane : s.link.lanes.operator = before ++ e :: rest) (hbefore : before.any (mergeable o a) = false)
    (he : mergeable o a e = true) :
    (placeGroup a snap s o).link.lanes.operator = before ++ { e with items := (itemsFor o snap).foldl mergeItem e.items } :: rest := by
  have hmerge : mergeInto o a (itemsFor o snap) s.link.lanes.operator =
      some (before ++ { e with items := (itemsFor o snap).foldl mergeItem e.items } :: rest) := by
    rw [hlane, mergeInto_append o a _ before _ hbefore, mergeInto, if_pos he]
    rfl
  rw [placeGroup, hmerge]
  rfl

/-- Any other group joins the tail where there is room, and is dropped and counted where there is none. -/
theorem placeGroup_unmerged {a : Action} {snap : List Entry} {s : State} {o : StationNo}
    (h : s.link.lanes.operator.any (mergeable o a) = false) :
    placeGroup a snap s o =
      if s.link.lanes.operator.length < operatorRoom then
        s.withLanes { s.link.lanes with operator := s.link.lanes.operator ++ [freshOperator o a (itemsFor o snap)] }
      else countOperatorDrop s := by
  rw [placeGroup, mergeInto_none h]

theorem placeGroup_horn (a : Action) (snap : List Entry) (s : State) (o : StationNo) :
    (placeGroup a snap s o).ann.horn = s.ann.horn := by
  unfold placeGroup
  split
  · rfl
  · split <;> rfl

/-- Settles O19. -/
theorem ownerGroupsMergeOrJoin : Obligations.OwnerGroupsMergeOrJoin := by
  refine ⟨fun o snap => ?_, fun me => rfl, fun me snap e => ⟨fun h => ?_, fun hme hnew => ?_⟩,
    fun items i => ⟨mergeItem_held, mergeItem_new⟩, fun a snap s o => ⟨fun before e rest => placeGroup_merged, mergeable_iff o a,
      fun h => ?_, fun h hroom => ?_, fun h hfull => ?_, placeGroup_table .., placeGroup_engine .., placeGroup_horn ..⟩⟩
  · simp only [itemsFor, beq_eq_decide]
    rfl
  · rw [remoteOwners_append, if_pos h]
  · rw [remoteOwners_append, if_neg (by tauto)]
  · obtain ⟨before, e, rest, hlane, hbefore, he⟩ := split_mergeable h
    rw [placeGroup_merged hlane hbefore he, hlane]
    refine ⟨by simp, fun hnodup i hi => ?_⟩
    exact ⟨{ e with items := (itemsFor o snap).foldl mergeItem e.items }, by simp, he, mem_mergeItems hnodup i hi⟩
  · rw [placeGroup_unmerged h, if_pos (show _ < operatorRoom from hroom)]
    rfl
  · rw [placeGroup_unmerged h, if_neg (show ¬_ < operatorRoom from Nat.not_lt.mpr hfull)]
    exact ⟨rfl, rfl⟩

end Sys2Proof.Machine

/-! PROOFS. The outputs and their read-back (R152 to R165). -/

namespace Sys2Proof.Machine

/-! ### Tables of 48 stations and of 16 lines -/

theorem any_station {α : Type} (v : Vector α 48) (p : α → Bool) :
    v.toList.any p = true ↔ ∃ n : StationNo, p v[n.index] = true := by
  rw [List.any_eq_true]
  constructor
  · rintro ⟨x, hx, hp⟩
    obtain ⟨i, hi, rfl⟩ := List.mem_iff_getElem.mp hx
    have hi' : i < 48 := by simpa using hi
    refine ⟨StationNo.ofIndex ⟨i, hi'⟩, ?_⟩
    have hindex : (StationNo.ofIndex ⟨i, hi'⟩).index = ⟨i, hi'⟩ := Fin.ext (Nat.add_sub_cancel i 1)
    simp only [hindex]
    simpa using hp
  · rintro ⟨n, hp⟩
    exact ⟨_, Vector.mem_toList_iff.mpr (Vector.getElem_mem n.index.isLt), hp⟩

theorem any_line {α : Type} (v : Vector α 16) (p : α → Bool) :
    v.toList.any p = true ↔ ∃ k : LineNo, p v[k] = true := by
  rw [List.any_eq_true]
  constructor
  · rintro ⟨x, hx, hp⟩
    obtain ⟨i, hi, rfl⟩ := List.mem_iff_getElem.mp hx
    exact ⟨⟨i, by simpa using hi⟩, by simpa using hp⟩
  · rintro ⟨k, hp⟩
    exact ⟨_, Vector.mem_toList_iff.mpr (Vector.getElem_mem k.isLt), hp⟩

theorem lampFault_iff (s : State) : s.lampFault = true ↔ ∃ k : LineNo, (s.readbackOf k).fault ≠ none := by
  simp only [State.lampFault, any_line, Option.isSome_iff_ne_none]
  rfl

theorem repairFailed_iff (s : State) : s.repairFailed = true ↔ ∃ n : StationNo, (s.repairOf n).state = .failed := by
  simp only [State.repairFailed, any_station, beq_iff_eq]
  rfl

theorem stationLost_iff (s : State) :
    s.stationLost = true ↔ ∃ n : StationNo, (s.member n).state = .lost ∨ (s.member n).state = .left := by
  simp only [State.stationLost, any_station, Bool.or_eq_true, beq_iff_eq]
  rfl

/-! ### Patterns (R153 to R155) -/

theorem rank_entryPattern (t : AlarmTable) (e : Entry) : (entryPattern t e).rank < Pattern.off.rank := by
  unfold entryPattern
  split
  · split <;> decide
  · split <;> decide
  · decide
  · decide

theorem rank_higher (p q : Pattern) : (p.higher q).rank = min p.rank q.rank := by
  unfold Pattern.higher
  split <;> omega

/-- A group's pattern ranks above all of its entries', and is one of theirs or the one it began with. -/
theorem groupFold_facts (t : AlarmTable) (g : GroupNo) (es : List Entry) (p : Pattern) :
    let q := es.foldl (fun p e => if e.group = g then p.higher (entryPattern t e) else p) p
    (q = p ∨ ∃ e ∈ es, e.group = g ∧ q = entryPattern t e) ∧ q.rank ≤ p.rank ∧
      ∀ e ∈ es, e.group = g → q.rank ≤ (entryPattern t e).rank := by
  induction es generalizing p with
  | nil => simp
  | cons e rest ih =>
    obtain ⟨hsource, hbefore, hrest⟩ := ih (if e.group = g then p.higher (entryPattern t e) else p)
    rw [List.foldl_cons]
    by_cases hg : e.group = g
    · rw [if_pos hg] at hsource hbefore hrest ⊢
      rw [rank_higher] at hbefore
      refine ⟨?_, by omega, List.forall_mem_cons.mpr ⟨fun _ => by omega, hrest⟩⟩
      obtain hsame | ⟨x, hx, hxg, hq⟩ := hsource
      · rw [hsame, Pattern.higher]
        split
        · exact .inl rfl
        · exact .inr ⟨e, List.mem_cons_self, hg, rfl⟩
      · exact .inr ⟨x, List.mem_cons_of_mem _ hx, hxg, hq⟩
    · rw [if_neg hg] at hsource hbefore hrest ⊢
      refine ⟨hsource.imp_right fun ⟨x, hx, h⟩ => ⟨x, List.mem_cons_of_mem _ hx, h⟩, hbefore,
        List.forall_mem_cons.mpr ⟨fun h => absurd h hg, hrest⟩⟩

theorem groupPattern_facts (t : AlarmTable) (g : GroupNo) :
    ((∀ e ∈ t.entries, e.group ≠ g) → groupPattern t g = .off) ∧
      ((∃ e ∈ t.entries, e.group = g) →
        (∃ e ∈ t.entries, e.group = g ∧ groupPattern t g = entryPattern t e) ∧
        ∀ e ∈ t.entries, e.group = g → (groupPattern t g).rank ≤ (entryPattern t e).rank) := by
  obtain ⟨hsource, _, hrank⟩ := groupFold_facts t g t.entries .off
  refine ⟨fun hnone => ?_, fun ⟨e, he, hg⟩ => ⟨?_, hrank⟩⟩
  · obtain hoff | ⟨e, he, hg, _⟩ := hsource
    · exact hoff
    · exact absurd hg (hnone e he)
  · obtain hoff | hheld := hsource
    · have hle := hrank e he hg
      rw [hoff] at hle
      exact absurd (rank_entryPattern t e) (Nat.not_lt.mpr hle)
    · exact hheld

theorem litAt_flagPattern (yes : Bool) (ph : Nat) : (flagPattern yes).litAt ph = yes := by cases yes <;> rfl

theorem linkFault_iff (s : State) :
    s.linkFault = true ↔ s.control.station = .isolated ∨ s.control.station = .halted ∨ s.control.station = .departing ∨
      s.control.station = .departed ∨ s.link.degraded = true := by
  unfold State.linkFault
  cases s.control.station <;> simp [StationState.silent]

theorem anyCause_iff (s : State) :
    s.anyCause = true ↔ (∃ k : LineNo, (s.readbackOf k).fault ≠ none) ∨ s.table.tableOverflow = true ∨ s.link.degraded = true ∨
      ∃ n : StationNo, (s.repairOf n).state = .failed := by
  rw [← lampFault_iff, ← repairFailed_iff, State.anyCause]
  simp only [Bool.or_eq_true, or_assoc]

/-- What an output shows while TEST is not held. -/
theorem drivenActive_of_source {s : State} (h : s.ann.test = false) (k : LineNo) :
    s.drivenActive k = (s.sourcePattern (s.ann.outputs[k]).source).litAt s.ann.phase.val := by
  simp [State.drivenActive, State.pattern, h]

theorem drivenActive_of_test {s : State} (h : s.ann.test = true) (k : LineNo) : s.drivenActive k = true := by
  simp [State.drivenActive, State.pattern, h, Pattern.litAt]

/-- Settles O27. -/
theorem outputsShowTheirPatterns : Obligations.OutputsShowTheirPatterns := by
  refine ⟨fun ph => ⟨?_, ?_, ?_, rfl, rfl⟩, fun t e => ⟨fun h => ?_, fun h => ?_, fun h => ?_⟩, groupPattern_facts,
    fun s ha => ⟨?_, fun k => ?_⟩, fun s ha => ⟨?_, fun k => ?_, fun htest k => ?_, fun htest k => ?_⟩⟩
  · simp only [Pattern.litAt, Bool.or_eq_true, Bool.and_eq_true, decide_eq_true_eq]
    omega
  · have hphase := ph.isLt
    simp only [Pattern.litAt, decide_eq_true_eq]
    omega
  · simp only [Pattern.litAt, decide_eq_true_eq]
    omega
  · obtain h | h := h <;> rw [entryPattern, h]
  · rw [entryPattern, h]
  · rw [entryPattern, h]
  · rw [State.audPin, if_neg (by simp [ha])]
  · rw [State.outPin, if_neg (by simp [ha])]
  · rw [State.audPin, if_pos ha]
    rfl
  · rw [State.outPin, if_pos ha]
  · have hdriven := drivenActive_of_test htest k
    rw [State.outPin, if_pos ha, hdriven, Bool.true_bne]
    exact ⟨rfl, rfl⟩
  · rw [drivenActive_of_source htest]
    refine ⟨fun h => ?_, fun o p h => ⟨fun e he => ?_, fun he => ?_⟩, fun g h => ?_, fun h => ?_, fun h => ?_, fun h => ?_, fun h => ?_,
      fun h => ?_⟩ <;> rw [h, State.sourcePattern]
    · rfl
    · rw [conditionPattern, he]
    · rw [conditionPattern, he]
      rfl
    · rw [litAt_flagPattern, State.audActive, htest]
      simp
    · rw [litAt_flagPattern, stationLost_iff]
    · rw [litAt_flagPattern, linkFault_iff]
    · rw [litAt_flagPattern]
    · rw [litAt_flagPattern, anyCause_iff]

/-! ### What a pattern is drawn from -/

/-- The patterns depend on the panel's settings, the table, and four yes-or-no values. -/
theorem pattern_congr {s t : State} (htest : t.ann.test = s.ann.test) (hout : t.ann.outputs = s.ann.outputs)
    (hhorn : t.ann.horn = s.ann.horn) (htable : t.table = s.table) (hlost : t.stationLost = s.stationLost)
    (hfault : t.linkFault = s.linkFault) (hcause : t.anyCause = s.anyCause) (k : LineNo) : t.pattern k = s.pattern k := by
  have hsource (x : Source) : t.sourcePattern x = s.sourcePattern x := by
    cases x <;> simp only [State.sourcePattern, State.audActive, htable, htest, hhorn, hlost, hfault, hcause]
  rw [State.pattern, State.pattern, htest, hout, hsource]

theorem settle_outputs (s : State) : (settle s).ann.outputs = s.ann.outputs := congrArg (fun a => a.outputs) (settle_ann s)

theorem settle_pattern (s : State) (ha : s.active = true) (k : LineNo) : (settle s).pattern k = s.pattern k :=
  pattern_congr (settle_test s) (settle_outputs s) (settle_horn s) (settle_table s) (by simp [State.stationLost])
    (by simp [State.linkFault]) (anyCause_settle s ha) k

/-- Settling drives no output anew. -/
theorem settle_drivenActive (s : State) (ha : s.active = true) (k : LineNo) : (settle s).drivenActive k = s.drivenActive k := by
  rw [State.drivenActive, State.drivenActive, settle_pattern s ha, settle_phase]

/-! ### CADENCE_TICK (R152) -/

theorem exec_cadenceTick {s : State} (h : s.control.inReset = false) :
    exec .cadenceTick s = .next (settle (advancePhase (tickTimers s))) := by
  refine congrArg Host.Outcome.next ?_
  exact whenAwake_of_awake h

theorem advancePhase_of_active {s : State} (h : s.active = true) :
    advancePhase s = s.withAnn { s.ann with phase := nextPhase s.ann.phase } := whenActive_of_active h

theorem advancePhase_of_not_active {s : State} (h : s.active = false) : advancePhase s = s := whenActive_of_not_active h

/-- Settles O24. -/
theorem cadenceTickAdvancesThePhase : Obligations.CadenceTickAdvancesThePhase := by
  intro s hawake
  refine ⟨_, exec_cadenceTick hawake, ?_⟩
  have hactive : (tickTimers s).active = s.active := rfl
  have hkept (u : State) : (advancePhase u).engine = u.engine ∧ (advancePhase u).table = u.table ∧ (advancePhase u).link = u.link ∧
      (advancePhase u).pins = u.pins ∧ (advancePhase u).control = u.control ∧ (advancePhase u).ann.horn = u.ann.horn ∧
      (advancePhase u).ann.test = u.ann.test ∧ (advancePhase u).monitor = u.monitor := by
    unfold advancePhase whenActive
    split <;> exact ⟨rfl, rfl, rfl, rfl, rfl, rfl, rfl, rfl⟩
  obtain ⟨hengine, htable, hlink, hpins, hcontrol, hhorn, htest, hmonitor⟩ := hkept (tickTimers s)
  refine ⟨fun ha => ?_, fun ha => ?_, fun i => ?_, ?_⟩
  · rw [settle_phase, advancePhase_of_active (hactive.trans ha)]
    show (s.ann.phase.val + 1) % 2000 = _
    have hphase := s.ann.phase.isLt
    split <;> omega
  · rw [settle_phase, advancePhase_of_not_active (hactive.trans ha)]
    rfl
  · rw [State.input, settle_monitor, hmonitor]
    simp only [tickTimers, Fin.getElem_fin, Vector.getElem_map]
    rfl
  · rw [settle_engine, settle_table, settle_link, settle_pins, settle_control, settle_horn, settle_test, hengine, htable, hlink,
      hpins, hcontrol, hhorn, htest]
    exact ⟨rfl, rfl, rfl, rfl, rfl, rfl, rfl⟩

end Sys2Proof.Machine

/-! PROOFS. The read-back's timers (R161 to R164), and the receiver's gap and corrupt frames (R77, R83, R91). -/

namespace Sys2Proof.Machine

theorem active_of_compared {s : State} {k : LineNo} (h : s.compared k = true) : s.active = true := by
  rw [State.compared, Bool.and_eq_true] at h
  exact h.1

/-! ### A record as it settles -/

/-- An output without a fault: its mismatch timer starts, runs on or stops, and it has no agreement timer (R162). -/
theorem settleRecord_of_clear {driven sensed : Bool} {r : ReadBack} (h : r.fault = none) :
    settleRecord true driven sensed r =
      { fault := none, agreement := .stopped,
        mismatch := if driven = sensed then .stopped else if r.mismatch.isRunning then r.mismatch else .running 200 0 } := by
  rw [settleRecord, if_pos rfl, h]
  rfl

/-- An output with a fault has no mismatch timer (R163). -/
theorem settleRecord_of_fault {driven sensed : Bool} {r : ReadBack} {level : Bool} (h : r.fault = some level) :
    settleRecord true driven sensed r =
      { fault := some level, mismatch := .stopped,
        agreement :=
          if driven = sensed then (if driven = level then resumeAgreement r.agreement else pauseAgreement r.agreement)
          else holdAgreement r.agreement } := by
  rw [settleRecord, if_pos rfl, h]

theorem settleRecord_mismatch_of_fault {compared driven sensed : Bool} {r : ReadBack} (h : r.fault ≠ none) :
    (settleRecord compared driven sensed r).mismatch = .stopped := by
  obtain ⟨level, hlevel⟩ := Option.ne_none_iff_exists'.mp h
  cases compared with
  | true => rw [settleRecord_of_fault hlevel]
  | false => rfl

theorem settleRecord_agreement_of_clear {compared driven sensed : Bool} {r : ReadBack} (h : r.fault = none) :
    (settleRecord compared driven sensed r).agreement = .stopped := by
  cases compared with
  | true => rw [settleRecord_of_clear h]
  | false => rfl

/-! ### A sense line (R162, R163) -/

theorem settle_withAnn (u : State) (x : Annunciation) : (settle u).withAnn x = u.withAnn x := by
  unfold settle whenActive
  split <;> rfl

theorem senseChange_apart (k : LineNo) (high : Bool) (s : State) :
    ((senseChange k high s).withPins s.pins).withAnn s.ann = s ∧
      ({ (senseChange k high s).ann with readback := s.ann.readback } : Annunciation) = s.ann := by
  unfold senseChange
  split <;> exact ⟨rfl, rfl⟩

/-- A move of a sense line touches the pin and the read-back alone. -/
theorem settled_senseChange_apart (k : LineNo) (high : Bool) (s : State) :
    ((settle (senseChange k high s)).withPins s.pins).withAnn s.ann = s ∧
      ({ (settle (senseChange k high s)).ann with readback := s.ann.readback } : Annunciation) = s.ann := by
  obtain ⟨hstate, hann⟩ := senseChange_apart k high s
  constructor
  · show ((settle (senseChange k high s)).withAnn s.ann).withPins s.pins = s
    rw [settle_withAnn]
    exact hstate
  · calc ({ (settle (senseChange k high s)).ann with readback := s.ann.readback } : Annunciation)
        = { ({ (settle (senseChange k high s)).ann with readback := (senseChange k high s).ann.readback } : Annunciation) with
            readback := s.ann.readback } := rfl
      _ = { (senseChange k high s).ann with readback := s.ann.readback } := by rw [settle_ann]
      _ = s.ann := hann

/-- What a move of a sense line leaves for the read-back to compare. -/
theorem senseChange_levels {k : LineNo} (high : Bool) {s : State} (h : s.compared k = true) :
    (senseChange k high s).active = true ∧ (senseChange k high s).compared k = true ∧
      (senseChange k high s).drivenActive k = s.drivenActive k ∧
      (senseChange k high s).sensedActive k = (high != (s.ann.outputs[k]).activeLow) := by
  have ha := active_of_compared h
  have hactive : (senseChange k high s).active = true := (active_of_control (senseChange_control k high s)).trans ha
  have hann := (senseChange_apart k high s).2
  have htest : (senseChange k high s).ann.test = s.ann.test := congrArg (fun a => a.test) hann
  have hout : (senseChange k high s).ann.outputs = s.ann.outputs := congrArg (fun a => a.outputs) hann
  have hhorn : (senseChange k high s).ann.horn = s.ann.horn := congrArg (fun a => a.horn) hann
  have hphase : (senseChange k high s).ann.phase = s.ann.phase := congrArg (fun a => a.phase) hann
  have hcause := ((causesStand_senseChange k high s) hactive).2.1
  refine ⟨hactive, ?_, ?_, ?_⟩
  · rw [State.compared, hactive, htest, hout]
    rwa [State.compared, ha] at h
  · rw [State.drivenActive, State.drivenActive, hphase,
      pattern_congr htest hout hhorn (senseChange_table k high s) (by simp [State.stationLost]) (by simp [State.linkFault]) hcause]
  · have hsense := vector_get_set s.pins.sense k k high
    rw [if_pos rfl] at hsense
    rw [State.sensedActive, hout, senseChange_pins]
    exact congrArg (· != (s.ann.outputs[k]).activeLow) hsense

theorem settled_sense (k j : LineNo) (high : Bool) (s : State) :
    (settle (senseChange k high s)).pins.sense[j] = if j = k then high else s.pins.sense[j] := by
  rw [settle_pins, senseChange_pins]
  exact vector_get_set _ _ _ _

/-- The record of the output whose sense line moves. -/
theorem readbackOf_senseChange {k : LineNo} {high : Bool} {s : State} (ha : s.active = true) :
    (senseChange k high s).readbackOf k =
      if s.pins.sense[k] = high then s.readbackOf k
      else { s.readbackOf k with agreement := senseAgreement (s.readbackOf k).agreement } := by
  unfold senseChange
  by_cases hsame : s.pins.sense[k] = high
  · rw [if_neg (by simp [hsame]), if_pos hsame, setSensePin_readbackOf]
  · rw [if_pos (by simpa [ha] using hsame), if_neg hsame, readbackOf_senseMoved, if_pos rfl, setSensePin_readbackOf]

/-- Settles O25. -/
theorem senseChangeMovesTheMismatchTimer : Obligations.SenseChangeMovesTheMismatchTimer := by
  refine ⟨fun k high s hcompared hclear => ⟨_, rfl, ?_, fun j hj => ?_, ?_, settled_senseChange_apart k high s⟩,
    fun k high level s hcompared hfault hmoved => ⟨_, rfl, ?_, ?_⟩⟩
  · rw [settled_sense, if_pos rfl]
  · rw [settled_sense, if_neg hj]
  · obtain ⟨hactive, hcompared', hdriven, hsensed⟩ := senseChange_levels high hcompared
    have hrecord := readbackOf_senseChange (k := k) (high := high) (active_of_compared hcompared)
    have hfault : ((senseChange k high s).readbackOf k).fault = none := by
      rw [hrecord]
      split <;> exact hclear
    have hmismatch : ((senseChange k high s).readbackOf k).mismatch = (s.readbackOf k).mismatch := by
      rw [hrecord]
      split <;> rfl
    rw [readbackOf_settle _ _ hactive, hcompared', settleRecord_of_clear hfault, hdriven, hsensed, hmismatch]
  · rw [settled_sense, if_pos rfl]
  · obtain ⟨hactive, hcompared', hdriven, hsensed⟩ := senseChange_levels high hcompared
    have hrecord := readbackOf_senseChange (k := k) (high := high) (active_of_compared hcompared)
    rw [if_neg hmoved] at hrecord
    have hlevel : ((senseChange k high s).readbackOf k).fault = some level := by rw [hrecord]; exact hfault
    rw [readbackOf_settle _ _ hactive, hcompared', settleRecord_of_fault hlevel, hdriven, hsensed, hrecord]
    refine ⟨rfl, rfl, fun hdiffer hfollowing => ?_, fun hagree => ?_, settled_senseChange_apart k high s⟩
    · rw [if_neg hdiffer]
      cases hagreement : (s.readbackOf k).agreement with
      | following t => exact absurd hagreement (hfollowing t)
      | stopped | running | paused => rfl
    · rw [if_pos hagree]
      cases hagreement : (s.readbackOf k).agreement <;> rfl

/-! ### The receiver (R77, R83, R91) -/

/-- Settles O28. -/
theorem gapAndCorruptFramesAtTheReceiver : Obligations.GapAndCorruptFramesAtTheReceiver := by
  refine ⟨fun s ha => whenActive_next ha, fun bytes s hreceives hbad => ?_⟩
  have hobjects : s.control.station.objects =
      decide (s.control.station = .listening ∨ s.control.station = .joining ∨ s.control.station = .running ∨
        s.control.station = .departing) := by
    cases s.control.station <;> rfl
  refine congrArg Host.Outcome.next ?_
  rw [takeCorrupt, if_pos (by rw [hbad]; simpa [State.receives] using hreceives), hobjects]

end Sys2Proof.Machine

/-! PROOFS. The read-back's faults (R161 to R164). -/

namespace Sys2Proof.Machine

/-! ### What the monitor's look leaves of the read-back -/

theorem handOver_readback (p : PointNo) (s : State) : (handOver p s).ann.readback = s.ann.readback := by
  unfold handOver localDeliver
  split
  · rfl
  · split
    · rw [takeChange_ann]
    · rfl

theorem healthSync_readback (s : State) : (healthSync s).ann.readback = s.ann.readback := by
  obtain ⟨x, heq | heq⟩ := healthSync_cases s <;> rw [heq]
  · rfl
  · exact handOver_readback 16 _

theorem readbackOf_healthSync (s : State) (k : LineNo) : (healthSync s).readbackOf k = s.readbackOf k := by
  simp only [State.readbackOf, healthSync_readback]

theorem readbackOf_finish_fault (s : State) (k : LineNo) : ((finish s).readbackOf k).fault = (s.readbackOf k).fault := by
  rw [finish, readbackOf_settle_fault, readbackOf_healthSync]

/-- A record after the end of a command. -/
theorem readbackOf_finish {s : State} (ha : s.active = true) (k : LineNo) :
    ∃ compared driven sensed, (finish s).readbackOf k = settleRecord compared driven sensed (s.readbackOf k) := by
  refine ⟨(healthSync s).compared k, (healthSync s).drivenActive k, (healthSync s).sensedActive k, ?_⟩
  rw [finish, readbackOf_settle _ _ (by rw [active_healthSync, ha]), readbackOf_healthSync]

/-! ### A millisecond -/

theorem readbackOf_tick (s : State) (k : LineNo) : (advancePhase (tickTimers s)).readbackOf k = (s.readbackOf k).tick := by
  have hkept : (advancePhase (tickTimers s)).ann.readback = (tickTimers s).ann.readback := by
    unfold advancePhase whenActive
    split <;> rfl
  rw [State.readbackOf, hkept]
  exact Vector.getElem_map ..

/-- A millisecond moves no pattern but by the phase. -/
theorem pattern_tick {s : State} (ha : s.active = true) (k : LineNo) : (advancePhase (tickTimers s)).pattern k = s.pattern k := by
  have hactive : (tickTimers s).active = true := ha
  have hticked := (causesStand_tickTimers s) hactive
  rw [advancePhase_of_active hactive]
  have hmember (n : StationNo) : ((tickTimers s).member n).state = (s.member n).state := by
    simp only [State.member, tickTimers, Fin.getElem_fin, Vector.getElem_map]
  refine pattern_congr (s := s) (t := (tickTimers s).withAnn { (tickTimers s).ann with phase := nextPhase (tickTimers s).ann.phase }) rfl rfl rfl rfl ?_ rfl hticked.2.1 k
  rw [Bool.eq_iff_iff, stationLost_iff, stationLost_iff]
  refine exists_congr fun n => ?_
  rw [← hmember n]
  rfl

theorem tick_isRunning (t : Timer) : t.tick.isRunning = t.isRunning := by cases t <;> rfl

/-- The levels an output is compared by after a millisecond. -/
theorem tick_levels {k : LineNo} {s : State} (h : s.compared k = true) :
    (advancePhase (tickTimers s)).active = true ∧ (advancePhase (tickTimers s)).compared k = true ∧
      (advancePhase (tickTimers s)).sensedActive k = s.sensedActive k := by
  have ha := active_of_compared h
  rw [advancePhase_of_active (show (tickTimers s).active = true from ha)]
  exact ⟨ha, h, rfl⟩

/-! ### TEST (R75, R161) -/

/-- A TEST press or release moves the panel's TEST state alone. -/
theorem panelAfter_test {s : State} (h : s.sensedButton .test ≠ (s.button .test).pressed) :
    panelAfter .test s = { s.ann with test := s.sensedButton .test } := by
  simp [panelAfter, h]

/-- Settles O26. -/
theorem readBackFaultsAndClears : Obligations.ReadBackFaultsAndClears := by
  refine ⟨fun k s hcompared hclear hrunning => ?_, fun k s ha hfault hrunning => ?_, fun k s hcompared => ?_,
    fun k s ha hsettled hrunning hchanged hclear => ?_⟩
  · have ha := active_of_compared hcompared
    have hexpired : mismatchExpiry k s =
        s.setReadback k { fault := some (s.drivenActive k), mismatch := .stopped, agreement := .stopped } := by
      rw [mismatchExpiry, if_pos ⟨hcompared, hclear, hrunning⟩]
    refine ⟨_, whenActive_next ha, ?_⟩
    rw [hexpired]
    generalize hu : s.setReadback k { fault := some (s.drivenActive k), mismatch := .stopped, agreement := .stopped } = u
    have hself : (u.readbackOf k).fault = some (s.drivenActive k) := by rw [← hu, readbackOf_setReadback, if_pos rfl]
    have hfault : ((finish u).readbackOf k).fault = some (s.drivenActive k) := (readbackOf_finish_fault u k).trans hself
    refine ⟨hfault, ?_, (lampFault_iff _).mpr ⟨k, by rw [hfault]; simp⟩, fun j hj => ?_⟩
    · obtain ⟨_, _, _, hrecord⟩ := readbackOf_finish (s := u) (hu ▸ ha) k
      rw [hrecord, settleRecord_mismatch_of_fault (by rw [hself]; simp)]
    · rw [readbackOf_finish_fault, ← hu, readbackOf_setReadback, if_neg hj]
  · have hexpired : agreementExpiry k s = s.setReadback k ReadBack.atReset := by
      rw [agreementExpiry, if_pos ⟨Option.isSome_iff_ne_none.mpr hfault, hrunning⟩]
    refine ⟨_, whenActive_next ha, ?_⟩
    rw [hexpired]
    generalize hu : s.setReadback k ReadBack.atReset = u
    have hself : (u.readbackOf k).fault = none := by
      rw [← hu, readbackOf_setReadback, if_pos rfl]
      rfl
    have hother (j : LineNo) (hj : j ≠ k) : ((finish u).readbackOf j).fault = (s.readbackOf j).fault := by
      rw [readbackOf_finish_fault, ← hu, readbackOf_setReadback, if_neg hj]
    have hcleared : ((finish u).readbackOf k).fault = none := (readbackOf_finish_fault u k).trans hself
    refine ⟨hcleared, ?_, hother, ?_⟩
    · obtain ⟨_, _, _, hrecord⟩ := readbackOf_finish (s := u) (hu ▸ ha) k
      rw [hrecord, settleRecord_agreement_of_clear hself]
    · rw [lampFault_iff]
      refine ⟨fun ⟨j, hj⟩ => ?_, fun ⟨j, hj, hheld⟩ => ⟨j, by rwa [hother j hj]⟩⟩
      have hne : j ≠ k := fun h => hj (h ▸ hcleared)
      exact ⟨j, hne, by rwa [hother j hne] at hj⟩
  · have ha := active_of_compared hcompared
    refine ⟨_, exec_cadenceTick (inReset_of_active ha), ?_⟩
    obtain ⟨hactive, hcompared', hsensed⟩ := tick_levels hcompared
    have hpattern := pattern_tick ha k
    have hrecord := readbackOf_tick s k
    generalize advancePhase (tickTimers s) = u at hactive hcompared' hsensed hpattern hrecord ⊢
    rw [readbackOf_settle u k hactive, hcompared', settle_drivenActive u hactive, hsensed, settle_phase, ← hpattern]
    refine ⟨rfl, ?_, fun hnone => ?_, fun level hlevel => ?_⟩
    · rw [settleRecord_fault, hrecord]
      rfl
    · have hclear : (u.readbackOf k).fault = none := by rw [hrecord]; exact hnone
      rw [settleRecord_of_clear hclear, hrecord]
      refine ⟨rfl, ?_⟩
      show (if _ then _ else if (s.readbackOf k).mismatch.tick.isRunning = true then _ else _) = _
      rw [tick_isRunning]
      rfl
    · have hheld : (u.readbackOf k).fault = some level := by rw [hrecord]; exact hlevel
      have hagreement : (u.readbackOf k).agreement = (s.readbackOf k).agreement.tick := by rw [hrecord]; rfl
      rw [settleRecord_of_fault hheld, hagreement]
      refine ⟨rfl, fun hagree => ?_, fun hdiffer => ?_⟩
      · rw [if_pos hagree]
        cases (s.readbackOf k).agreement <;> rfl
      · rw [if_neg hdiffer]
        cases (s.readbackOf k).agreement <;> rfl
  · refine ⟨_, whenActive_next ha, ?_⟩
    have hpanel : buttonExpiry .test s = (buttonTaken .test s).withAnn { s.ann with test := s.sensedButton .test } := by
      rw [buttonExpiry_panel hrunning (.inr (.inl rfl)), panelAfter_test hchanged]
    rw [hpanel, finish_settled ((buttonTaken .test s).withAnn { s.ann with test := s.sensedButton .test }) hsettled]
    generalize hu : (buttonTaken .test s).withAnn { s.ann with test := s.sensedButton .test } = u
    have hactive : u.active = true := hu ▸ ha
    have hrecord : u.readbackOf k = s.readbackOf k := hu ▸ rfl
    have hsensed : u.sensedActive k = s.sensedActive k := hu ▸ rfl
    have htest : u.ann.test = s.sensedButton .test := hu ▸ rfl
    have hsource : u.ann.outputs = s.ann.outputs := hu ▸ rfl
    rw [settle_drivenActive u hactive, readbackOf_settle u k hactive, hrecord, hsensed]
    refine ⟨fun hpressed => drivenActive_of_test (htest.trans hpressed) k, fun hreleased => ?_, ?_⟩
    · rw [drivenActive_of_source (htest.trans hreleased), hsource]
      rw [← hu, hreleased]
      rfl
    · have hcompared : u.compared k = true ↔ ¬(s.sensedButton .test = false ∧ (s.ann.outputs[k]).source = .none) := by
        rw [State.compared, hactive, htest, hsource]
        cases s.sensedButton .test <;> simp
      cases hc : u.compared k with
      | true =>
        have hcompares : ¬(s.sensedButton .test = false ∧ (s.ann.outputs[k]).source = .none) := hcompared.mp hc
        rw [settleRecord_of_clear hclear]
        simp only [hcompares, false_or]
      | false =>
        have hreleased : s.sensedButton .test = false ∧ (s.ann.outputs[k]).source = .none :=
          not_not.mp fun h => by simp [hcompared.mpr h] at hc
        rw [if_pos (.inl hreleased), settleRecord, if_neg (by simp), hclear]

end Sys2Proof.Machine

/-! PROOFS. What a hand-over of an own change, and with it the health cause monitor's look, may change beside its point (R12, R17). -/

namespace Sys2Proof.Machine

/-! ### Tables that agree on some conditions -/

/-- A table that holds the entries and slots of some conditions as another does, gives no slot beside, and counts no drop. -/
def AlarmTable.agreesOn (q : Condition → Bool) (t u : AlarmTable) : Prop :=
  u.entries.filter (fun e => q e.condition) = t.entries.filter (fun e => q e.condition) ∧
    (∀ (g : GroupNo) (c : Condition), u.slots[g] = some c → t.slots[g] = some c) ∧
    (∀ (g : GroupNo) (c : Condition), q c = true → t.slots[g] = some c → u.slots[g] = some c) ∧ u.dropped = t.dropped

/-- The flags of R54 and R55 are the same. -/
def AlarmTable.sameFlags (t u : AlarmTable) : Prop := u.overflow = t.overflow ∧ u.tableOverflow = t.tableOverflow

theorem AlarmTable.agreesOn_refl (q : Condition → Bool) (t : AlarmTable) : t.agreesOn q t :=
  ⟨rfl, fun _ _ h => h, fun _ _ _ h => h, rfl⟩

theorem AlarmTable.agreesOn_trans {q : Condition → Bool} {t u v : AlarmTable} (h : t.agreesOn q u) (h' : u.agreesOn q v) :
    t.agreesOn q v := by
  obtain ⟨hentries, hslots, hkept, hdropped⟩ := h
  obtain ⟨hentries', hslots', hkept', hdropped'⟩ := h'
  exact ⟨hentries'.trans hentries, fun g c hc => hslots g c (hslots' g c hc), fun g c hq hc => hkept' g c hq (hkept g c hq hc),
    hdropped'.trans hdropped⟩

theorem AlarmTable.agreesOn_mono {q q' : Condition → Bool} {t u : AlarmTable} (h : t.agreesOn q u)
    (hq : ∀ c, q' c = true → q c = true) : t.agreesOn q' u := by
  obtain ⟨hentries, hslots, hkept, hdropped⟩ := h
  refine ⟨?_, hslots, fun g c hc => hkept g c (hq c hc), hdropped⟩
  have hboth (e : Entry) : q' e.condition = (q' e.condition && q e.condition) := by
    cases hc : q' e.condition with
    | false => rfl
    | true => rw [hq _ hc]; rfl
  have := congrArg (List.filter (fun e : Entry => q' e.condition)) hentries
  rw [List.filter_filter, List.filter_filter] at this
  simp only [← hboth] at this
  exact this

/-- Entries are found by the conditions the tables agree on. -/
theorem find_of_agreesOn {q : Condition → Bool} {t u : AlarmTable} (h : t.agreesOn q u) {c : Condition} (hc : q c = true) :
    u.find c = t.find c := by
  have hfind (v : AlarmTable) : v.find c = (v.entries.filter (fun e => q e.condition)).find? (fun e => e.condition == c) := by
    unfold AlarmTable.find
    rw [List.find?_filter]
    congr 1
    funext e
    by_cases he : e.condition = c
    · simp [he, hc]
    · simp [he]
  rw [hfind, hfind, h.1]

theorem filter_rewritten {q : Condition → Bool} {c : Condition} (hq : q c = false) {f : Entry → Entry}
    (hf : ∀ x, (f x).condition = x.condition) (es : List Entry) :
    (es.map (fun x => if x.condition = c then f x else x)).filter (fun e => q e.condition) = es.filter (fun e => q e.condition) := by
  induction es with
  | nil => rfl
  | cons e rest ih =>
    rw [List.map_cons, List.filter_cons, List.filter_cons, ih]
    split
    · next he =>
      rw [hf, he, hq]
      simp
    · rfl

/-- Contents of the own station that give no slot touch their condition alone (R37 to R39, R41). -/
theorem applyContents_agreesOn {q : Condition → Bool} {n : StationNo} {r : PointReport} (ch : Change) (hq : q ⟨n, r.point⟩ = false) :
    ch.table.agreesOn q (applyContents (some n) false n r ch).table := by
  have hne (c : Condition) (hc : q c = true) : c ≠ ⟨n, r.point⟩ := fun h => by simp [h, hq] at hc
  unfold applyContents
  split
  · cases hf : ch.table.find ⟨n, r.point⟩ with
    | none => rw [removeEntry_of_none hf]; exact ch.table.agreesOn_refl q
    | some e =>
      rw [removeEntry_table_of_find hf]
      refine ⟨?_, fun g c hc => ?_, fun g c hqc hc => ?_, rfl⟩
      · rw [List.filter_filter]
        refine List.filter_congr fun x _ => ?_
        by_cases hx : x.condition = ⟨n, r.point⟩ <;> simp [hx, hq]
      · rw [slotsWithout, slots_map_get] at hc
        split at hc
        · cases hc
        · exact hc
      · rw [slotsWithout, slots_map_get, hc, if_neg fun h => hne c hqc (Option.some.inj h)]
  · next st _ =>
    split
    · next e he =>
      unfold updateEntry
      split
      · exact ch.table.agreesOn_refl q
      · have hcond := condition_of_find he
        refine ⟨?_, fun g c hc => rewriteEntry_slot hc, fun g c hqc hc => ?_, rfl⟩
        · exact filter_rewritten (q := q) (c := e.condition) (f := fun x => x.take r st) (by rw [hcond, hq]) (fun _ => rfl) _
        · rw [rewriteEntry_slots]
          split
          · next hmoved =>
            rw [slots_set_get, if_neg ?_, hc]
            rintro rfl
            exact hne c hqc (Option.some.inj (hc.symm.trans (hcond ▸ hmoved.2)))
          · exact hc
    · obtain ⟨⟨hother, _⟩, _⟩ | ⟨_, heq⟩ := createEntry_cases (some n) false n r st ch
      · exact absurd rfl hother
      · rw [heq]
        refine ⟨?_, fun g c hc => by simpa using hc, fun g c _ hc => by simpa using hc, rfl⟩
        have hnew : q (newEntry n r st).condition = false := hq
        simp [List.filter_append, hnew]

/-! ### The hand-over of an own change -/

/-- Own contents never set OVERFLOW, so the repairs go on (R54, R149). -/
theorem overflow_applyContents_own {n : StationNo} {r : PointReport} {ch : Change}
    (h : (applyContents (some n) false n r ch).table.overflow = true) : ch.table.overflow = true := by
  unfold applyContents at h
  split at h
  · cases hf : ch.table.find ⟨n, r.point⟩ with
    | none => rwa [removeEntry_of_none hf] at h
    | some e =>
      rw [removeEntry_table_of_find hf] at h
      simp only [Bool.and_eq_true] at h
      exact h.1
  · next st _ =>
    split at h
    · unfold updateEntry at h
      split at h <;> exact h
    · obtain ⟨⟨hother, _⟩, _⟩ | ⟨_, heq⟩ := createEntry_cases (some n) false n r st ch
      · exact absurd rfl hother
      · rw [heq] at h
        exact h

@[simp] theorem localDeliver_repair (p : PointNo) (s : State) : (localDeliver p s).repair = s.repair := by
  cases hme : s.me with
  | none =>
    unfold localDeliver
    rw [hme]
  | some n =>
    rw [localDeliver_of_me hme, takeChange]
    dsimp only
    split
    · next hset =>
      rw [Bool.and_eq_true, Bool.not_eq_true', hme] at hset
      obtain ⟨hover, hclear⟩ := hset
      exact absurd ((overflow_applyContents_own hover).symm.trans hclear) (by decide)
    · rfl

@[simp] theorem handOver_repair (p : PointNo) (s : State) : (handOver p s).repair = s.repair := by
  unfold handOver; split <;> simp
@[simp] theorem changePoint_repair (p : PointNo) (st : SeqState) (s : State) : (changePoint p st s).repair = s.repair := by
  simp [changePoint]
@[simp] theorem takeItem_repair (a : Action) (s : State) (i : Item) : (takeItem a s i).repair = s.repair := by
  unfold takeItem; split <;> simp
@[simp] theorem healthSync_repair (s : State) : (healthSync s).repair = s.repair := by
  obtain ⟨x, heq | heq⟩ := healthSync_cases s <;> rw [heq] <;> simp
@[simp] theorem causeMoment_repair (o : Orders) (s : State) : (causeMoment o s).repair = s.repair := by
  unfold causeMoment; split <;> simp
@[simp] theorem finish_repair (s : State) : (finish s).repair = s.repair := by simp [finish]
@[simp] theorem emptyLanes_repair (s : State) : (emptyLanes s).repair = s.repair := by
  have hfold (marks : List ReportMark) (u : State) : (marks.foldl (fun t m => localDeliver m.point t) u).repair = u.repair := by
    induction marks generalizing u with
    | nil => rfl
    | cons m rest ih => exact (ih _).trans (localDeliver_repair m.point u)
  exact hfold s.link.lanes.report (discardLanes s)

theorem handOver_ann (p : PointNo) (s : State) : ∃ horn, (handOver p s).ann = { s.ann with horn := horn } := by
  unfold handOver localDeliver
  split
  · exact ⟨s.ann.horn, rfl⟩
  · split
    · exact ⟨_, takeChange_ann _ s⟩
    · exact ⟨s.ann.horn, rfl⟩

/-- A request for a mark leaves the other points' marks (R94). -/
theorem requestMark_others (onAir : Bool) (p : PointNo) (marks : List ReportMark) :
    (requestMark onAir p marks).filter (fun m => decide (m.point ≠ p)) = marks.filter (fun m => decide (m.point ≠ p)) := by
  unfold requestMark
  split
  · cases marks with
    | nil => rfl
    | cons m rest =>
      dsimp only
      split
      · next h => simp [h.2]
      · rfl
  · simp [List.filter_append, freshMark]

/-- A hand-over leaves every entry and slot of the other conditions (R12, R41). -/
theorem handOver_agreesOn {q : Condition → Bool} {p : PointNo} {s : State} (hq : ∀ n, s.me = some n → q ⟨n, p⟩ = false) :
    s.table.agreesOn q (handOver p s).table := by
  unfold handOver
  split
  · exact s.table.agreesOn_refl q
  · cases hme : s.me with
    | none =>
      unfold localDeliver
      rw [hme]
      exact s.table.agreesOn_refl q
    | some n =>
      rw [localDeliver_of_me hme, takeChange_table, hme]
      exact applyContents_agreesOn (r := s.contents p) ⟨s.table, []⟩ (hq n hme)

theorem handOver_sameFlags {p : PointNo} {s : State} (hlaw : overflowLaw s.me s.table) : s.table.sameFlags (handOver p s).table := by
  unfold handOver
  split
  · exact ⟨rfl, rfl⟩
  · cases hme : s.me with
    | none =>
      unfold localDeliver
      rw [hme]
      exact ⟨rfl, rfl⟩
    | some n =>
      have happly := applyContents_apartFrom (n := n) (ch := ⟨s.table, []⟩) (s.contents p) (hme ▸ hlaw)
      rw [localDeliver_of_me hme, takeChange_table, hme]
      injection happly with _ _ hover htable
      exact ⟨hover, htable⟩

/-! ### The monitor's look (R17) -/

/-- What a look of the health cause monitor, or several, may leave otherwise: the engine's point 16 and level, its mark, its entry, the
horn latch, and the read-back's timers. -/
structure State.Looked (s t : State) : Prop where
  control : t.control = s.control
  monitor : t.monitor = s.monitor
  roster : t.roster = s.roster
  repair : t.repair = s.repair
  service : t.service = s.service
  pins : t.pins = s.pins
  points : ∀ p : PointNo, p ≠ 16 → t.point p = s.point p
  refused : t.engine.itemsRefused = s.engine.itemsRefused
  link : ∃ marks, t.link = { s.link with lanes := { s.link.lanes with report := marks } } ∧
    marks.filter (fun m => decide (m.point ≠ 16)) = s.link.lanes.report.filter (fun m => decide (m.point ≠ 16))
  ann : ∃ horn readback, t.ann = { s.ann with horn := horn, readback := readback }
  table : s.table.agreesOn s.apartFromHealth t.table
  flags : overflowLaw s.me s.table → s.table.sameFlags t.table
  marked : s.marks = true → t.table = s.table

/-- Whether point 16 has moved by a look: not at all, with the table as it was, or by one revision. -/
def State.lookStep (s t : State) : Prop :=
  (t.point 16 = s.point 16 ∧ t.table = s.table) ∨ (t.point 16).revision = (s.point 16).revision + 1#8

theorem apartFromHealth_own {s : State} {n : StationNo} (h : s.me = some n) : s.apartFromHealth ⟨n, 16⟩ = false := by
  simp [State.apartFromHealth, h]

theorem apartFromHealth_eq_true {s : State} {c : Condition} :
    s.apartFromHealth c = true ↔ ∀ n, s.me = some n → c ≠ ⟨n, 16⟩ := by
  rw [State.apartFromHealth, decide_eq_true_eq]
  constructor
  · rintro h n hn rfl
    exact h.elim (fun hne => hne hn) (fun hne => hne rfl)
  · intro h
    by_cases hown : s.me = some c.owner
    · exact .inr fun hp => h c.owner hown (by rw [← hp])
    · exact .inl hown

theorem apartFromHealth_congr {s t : State} (h : t.me = s.me) : t.apartFromHealth = s.apartFromHealth := by
  funext c
  rw [State.apartFromHealth, State.apartFromHealth, h]

theorem marks_congr {s t : State} (hc : t.control = s.control) (hl : t.link.lanesOpen = s.link.lanesOpen) : t.marks = s.marks := by
  rw [State.marks, State.marks, hc, hl]

theorem State.Looked.refl (s : State) : s.Looked s :=
  ⟨rfl, rfl, rfl, rfl, rfl, rfl, fun _ _ => rfl, rfl, ⟨_, rfl, rfl⟩, ⟨_, _, rfl⟩, s.table.agreesOn_refl _, fun _ => ⟨rfl, rfl⟩,
    fun _ => rfl⟩

theorem State.Looked.me {s t : State} (h : s.Looked t) : t.me = s.me := me_of_control h.control

theorem State.Looked.active {s t : State} (h : s.Looked t) : t.active = s.active := active_of_control h.control

theorem State.Looked.lanesOpen {s t : State} (h : s.Looked t) : t.link.lanesOpen = s.link.lanesOpen := by
  obtain ⟨marks, heq, _⟩ := h.link
  rw [heq]

theorem State.Looked.marks_eq {s t : State} (h : s.Looked t) : t.marks = s.marks := marks_congr h.control h.lanesOpen

/-- A look leaves the flags lawful (R55). -/
theorem State.Looked.overflowLaw {s t : State} (h : s.Looked t) (hlaw : Machine.overflowLaw s.me s.table) :
    Machine.overflowLaw t.me t.table := by
  have hoccupied : occupancy s.me t.table.entries = occupancy s.me s.table.entries := by
    have hfilter := congrArg (List.filter (fun e : Entry => some e.owner != s.me)) h.table.1
    rw [List.filter_filter, List.filter_filter] at hfilter
    have hremote (e : Entry) : ((some e.owner != s.me) && s.apartFromHealth e.condition) = (some e.owner != s.me) := by
      by_cases hown : some e.owner = s.me
      · simp [hown]
      · have hapart : s.apartFromHealth e.condition = true := by
          rw [State.apartFromHealth, decide_eq_true_eq]
          exact .inl fun hme => hown hme.symm
        rw [hapart, Bool.and_true]
    simp only [hremote] at hfilter
    rw [occupancy, occupancy, hfilter]
  obtain ⟨hover, htable⟩ := h.flags hlaw
  rw [h.me, Machine.overflowLaw, hover, htable, hoccupied]
  exact hlaw

theorem State.Looked.trans {s t u : State} (h : s.Looked t) (h' : t.Looked u) : s.Looked u where
  control := h'.control.trans h.control
  monitor := h'.monitor.trans h.monitor
  roster := h'.roster.trans h.roster
  repair := h'.repair.trans h.repair
  service := h'.service.trans h.service
  pins := h'.pins.trans h.pins
  points p hp := (h'.points p hp).trans (h.points p hp)
  refused := h'.refused.trans h.refused
  link := by
    obtain ⟨marks, heq, hother⟩ := h.link
    obtain ⟨marks', heq', hother'⟩ := h'.link
    rw [heq] at heq' hother'
    exact ⟨marks', heq', hother'.trans hother⟩
  ann := by
    obtain ⟨horn, readback, heq⟩ := h.ann
    obtain ⟨horn', readback', heq'⟩ := h'.ann
    exact ⟨horn', readback', by rw [heq', heq]⟩
  table := AlarmTable.agreesOn_trans h.table (apartFromHealth_congr h.me ▸ h'.table)
  flags hlaw := by
    obtain ⟨hover, htable⟩ := h.flags hlaw
    obtain ⟨hover', htable'⟩ := h'.flags (h.overflowLaw hlaw)
    exact ⟨hover'.trans hover, htable'.trans htable⟩
  marked hm := (h'.marked (h.marks_eq.trans hm)).trans (h.marked hm)

/-- A state whose level and read-back alone differ. -/
theorem looked_of_blocks {s t : State} (hc : t.control = s.control) (hm : t.monitor = s.monitor) (hr : t.roster = s.roster)
    (hp : t.repair = s.repair) (hs : t.service = s.service) (hq : t.pins = s.pins) (he : t.engine.points = s.engine.points)
    (hi : t.engine.itemsRefused = s.engine.itemsRefused) (hl : t.link = s.link)
    (ha : ∃ readback, t.ann = { s.ann with readback := readback }) (ht : t.table = s.table) : s.Looked t where
  control := hc
  monitor := hm
  roster := hr
  repair := hp
  service := hs
  pins := hq
  points p _ := by simp only [State.point, he]
  refused := hi
  link := ⟨s.link.lanes.report, hl, rfl⟩
  ann := by
    obtain ⟨readback, heq⟩ := ha
    exact ⟨s.ann.horn, readback, heq⟩
  table := by rw [ht]; exact s.table.agreesOn_refl _
  flags _ := by rw [ht]; exact ⟨rfl, rfl⟩
  marked _ := ht

/-- A change of point 16 and its hand-over. -/
theorem changePoint_looked (st : SeqState) (s : State) : s.Looked (changePoint 16 st s) ∧ s.lookStep (changePoint 16 st s) := by
  refine ⟨{ control := by simp, monitor := by simp, roster := by simp, repair := by simp, service := by simp, pins := by simp,
            points := fun p hp => point_changePoint_of_ne hp st s, refused := changePoint_itemsRefused 16 st s, link := ?_, ann := ?_,
            table := ?_, flags := fun hlaw => ?_, marked := fun hm => ?_ }, .inr ?_⟩
  · cases hm : s.marks with
    | true =>
      rw [changePoint_link_of_marks hm]
      exact ⟨_, rfl, requestMark_others _ 16 _⟩
    | false =>
      have hmarks : (s.setPoint 16 { s.point 16 with state := st, revision := (s.point 16).revision + 1#8 }).marks = false := hm
      rw [changePoint, handOver, if_neg (by rw [hmarks]; decide), localDeliver_link]
      exact ⟨s.link.lanes.report, rfl, rfl⟩
  · obtain ⟨horn, heq⟩ := handOver_ann 16 (s.setPoint 16 { s.point 16 with state := st, revision := (s.point 16).revision + 1#8 })
    exact ⟨horn, s.ann.readback, heq⟩
  · exact handOver_agreesOn (s := s.setPoint 16 _) fun n hn => apartFromHealth_own hn
  · exact handOver_sameFlags (s := s.setPoint 16 _) hlaw
  · exact handOver_table_of_marks (s := s.setPoint 16 _) hm
  · rw [point_changePoint_self]

theorem healthSync_looked (s : State) : s.Looked (healthSync s) ∧ s.lookStep (healthSync s) := by
  unfold healthSync
  split
  · have hlevel : s.Looked (s.withEngine { s.engine with healthLevel := s.anyCause }) :=
      looked_of_blocks rfl rfl rfl rfl rfl rfl rfl rfl rfl ⟨_, rfl⟩ rfl
    obtain heq | ⟨st, heq⟩ := fieldEvent_cases 16 (if s.anyCause then .assert else .clear)
      (s.withEngine { s.engine with healthLevel := s.anyCause }) <;> rw [heq]
    · exact ⟨hlevel, .inl ⟨rfl, rfl⟩⟩
    · obtain ⟨hlooked, hstep⟩ := changePoint_looked st (s.withEngine { s.engine with healthLevel := s.anyCause })
      exact ⟨hlevel.trans hlooked, hstep⟩
  · exact ⟨.refl s, .inl ⟨rfl, rfl⟩⟩

theorem causeMoment_looked (o : Orders) (s : State) : s.Looked (causeMoment o s) ∧ s.lookStep (causeMoment o s) := by
  unfold causeMoment
  split
  · exact healthSync_looked s
  · exact ⟨.refl s, .inl ⟨rfl, rfl⟩⟩

theorem settle_looked (s : State) : s.Looked (settle s) :=
  looked_of_blocks (by simp) (by simp) (by simp) (by simp) (by simp) (by simp) (by simp) (by simp) (by simp)
    ⟨(settle s).ann.readback, congrArg (fun a : Annunciation => { a with readback := (settle s).ann.readback }) (settle_ann s)⟩ (by simp)

theorem finish_looked (s : State) : s.Looked (finish s) ∧ s.lookStep (finish s) := by
  obtain ⟨hlooked, hstep⟩ := healthSync_looked s
  refine ⟨hlooked.trans (settle_looked _), ?_⟩
  rw [State.lookStep, point_of_engine (t := finish s) (s := healthSync s) (settle_engine _),
    show (finish s).table = (healthSync s).table from settle_table _]
  exact hstep

end Sys2Proof.Machine

/-! PROOFS. What a station offers, and its attempts on the link up to the seventh failure (R77, R80, R81, R84, R87, R91 to R97). -/

namespace Sys2Proof.Machine

/-! ### The offer (R91 to R93) -/

theorem lowestLane_of_report {l : Lanes} (h : l.report ≠ []) : lowestLane l = some .report := by
  obtain ⟨m, rest, heq⟩ := List.exists_cons_of_ne_nil h
  simp [lowestLane, heq]

theorem lowestLane_of_operator {l : Lanes} (hr : l.report = []) (h : l.operator ≠ []) : lowestLane l = some .operator := by
  obtain ⟨e, rest, heq⟩ := List.exists_cons_of_ne_nil h
  simp [lowestLane, hr, heq]

theorem lowestLane_of_repair {l : Lanes} (hr : l.report = []) (ho : l.operator = []) (h : l.repair ≠ []) :
    lowestLane l = some .repair := by
  obtain ⟨e, rest, heq⟩ := List.exists_cons_of_ne_nil h
  simp [lowestLane, hr, ho, heq]

theorem lowestLane_of_roll {l : Lanes} (hr : l.report = []) (ho : l.operator = []) (hd : l.repair = []) (h : l.roll ≠ none) :
    lowestLane l = some .roll := by
  obtain ⟨f, heq⟩ := Option.ne_none_iff_exists'.mp h
  simp [lowestLane, hr, ho, hd, heq]

theorem lowestLane_of_empty {l : Lanes} (hr : l.report = []) (ho : l.operator = []) (hd : l.repair = []) (h : l.roll = none) :
    lowestLane l = none := by
  simp [lowestLane, hr, ho, hd, h]

/-- The lane chosen has a head, and every lane of a lower class is empty (R93). -/
theorem of_lowestLane {l : Lanes} {lane : Lane} (h : lowestLane l = some lane) :
    (lane = .report → l.report ≠ []) ∧ (lane = .operator → l.report = [] ∧ l.operator ≠ []) ∧
      (lane = .repair → l.report = [] ∧ l.operator = [] ∧ l.repair ≠ []) ∧
      (lane = .roll → l.report = [] ∧ l.operator = [] ∧ l.repair = [] ∧ l.roll ≠ none) := by
  unfold lowestLane at h
  split at h <;> injection h <;> subst lane <;> simp_all

/-- Whether a station offers by class: in RUNNING, in DEPARTING, and in JOINING once its own JOIN is delivered (R92). -/
def State.offersAll (s : State) : Prop :=
  s.control.station = .running ∨ s.control.station = .departing ∨ (s.control.station = .joining ∧ s.link.lanesOpen = true)

theorem offer_eq_lowestLane {s : State} (ha : s.active = true) (hg : s.link.gapSensed = true) (hs : s.link.sending = none)
    (h : s.offersAll) : s.offer = lowestLane s.link.lanes := by
  rw [State.offer, ha, hg, hs, if_pos (by decide)]
  obtain hst | hst | ⟨hst, hopen⟩ := h
  · simp only [hst]
  · simp only [hst]
  · simp only [hst, hopen, if_true]

theorem offer_of_join {s : State} {f : RollFrame} (ha : s.active = true) (hg : s.link.gapSensed = true)
    (hs : s.link.sending = none) (hst : s.control.station = .joining) (hclosed : s.link.lanesOpen = false)
    (hf : s.link.lanes.roll = some f) (hj : f.kind = .join) : s.offer = some .roll := by
  rw [State.offer, ha, hg, hs, if_pos (by decide)]
  simp [hst, hclosed, hf, hj]

/-- Settles O29: the offer's two forms, and the choice among the lanes. -/
theorem offersFollowStateAndClass : Obligations.OffersFollowStateAndClass := by
  refine ⟨fun s lane h => ?_, fun s ha hg hs => ⟨fun hall => ?_, fun hst hclosed f => offer_of_join ha hg hs hst hclosed⟩⟩
  · obtain ⟨ha, hg, hs, hstation⟩ := of_offer h
    refine ⟨ha, hg, hs, ?_, fun hjoin hclosed => ?_, fun hnot => ?_⟩
    · obtain hst | hst | ⟨hst, _⟩ := hstation
      · exact .inl hst
      · exact .inr (.inl hst)
      · exact .inr (.inr hst)
    · obtain hst | hst | ⟨_, hopen | hroll⟩ := hstation
      · simp [hst] at hjoin
      · simp [hst] at hjoin
      · simp [hclosed] at hopen
      · exact hroll
    · have hall : s.offersAll := by
        obtain hst | hst | ⟨hst, _⟩ := hstation
        · exact .inl hst
        · exact .inr (.inl hst)
        · exact .inr (.inr ⟨hst, by simpa [hst] using hnot⟩)
      exact of_lowestLane ((offer_eq_lowestLane ha hg hs hall).symm.trans h)
  · rw [offer_eq_lowestLane ha hg hs hall]
    exact ⟨lowestLane_of_report, lowestLane_of_operator, lowestLane_of_repair, lowestLane_of_roll, lowestLane_of_empty⟩

/-! ### The start of an attempt (R87) -/

theorem headPayload_of_offer {s : State} {lane : Lane} (h : s.offer = some lane) : s.headPayload lane ≠ none := by
  obtain ⟨ha, hg, hs, hstation⟩ := of_offer h
  have hlowest (hall : s.offersAll) : s.headPayload lane ≠ none := by
    obtain ⟨hreport, hoperator, hrepair, hroll⟩ := of_lowestLane ((offer_eq_lowestLane ha hg hs hall).symm.trans h)
    cases lane with
    | report => simpa [State.headPayload] using hreport rfl
    | operator => simpa [State.headPayload] using (hoperator rfl).2
    | repair => simpa [State.headPayload] using (hrepair rfl).2.2
    | roll => simpa [State.headPayload] using (hroll rfl).2.2.2
  obtain hst | hst | ⟨hst, hopen | ⟨rfl, f, hf, _⟩⟩ := hstation
  · exact hlowest (.inl hst)
  · exact hlowest (.inr (.inl hst))
  · exact hlowest (.inr (.inr ⟨hst, hopen⟩))
  · simp [State.headPayload, hf]

/-- The head that starts keeps its failed attempts and takes the next attempt number (R87). -/
theorem startHead_attempt {s : State} {lane : Lane} (h : s.headPayload lane ≠ none) :
    headAttempt lane (startHead lane s.link.lanes) = headFailed lane s.link.lanes + 1 ∧
      headFailed lane (startHead lane s.link.lanes) = headFailed lane s.link.lanes := by
  cases lane with
  | report =>
    cases hl : s.link.lanes.report with
    | nil => simp [State.headPayload, hl] at h
    | cons m rest => simp [headAttempt, headFailed, startHead, onHead, hl]
  | operator =>
    cases hl : s.link.lanes.operator with
    | nil => simp [State.headPayload, hl] at h
    | cons e rest => simp [headAttempt, headFailed, startHead, onHead, hl]
  | repair =>
    cases hl : s.link.lanes.repair with
    | nil => simp [State.headPayload, hl] at h
    | cons e rest => simp [headAttempt, headFailed, startHead, onHead, startRepair, hl]
  | roll =>
    cases hl : s.link.lanes.roll with
    | none => simp [State.headPayload, hl] at h
    | some f => simp [headAttempt, headFailed, startHead, hl]

/-- Settles O30: the start of an attempt, once its lane is offered and has a head. -/
theorem attemptBuildsTheFrame : Obligations.AttemptBuildsTheFrame := by
  refine ⟨fun s n lane p hme hoffer hp => ⟨?_, startHead_attempt (by simp [hp])⟩, fun s lane => headPayload_of_offer, fun l => ⟨?_, ?_, ?_, ?_⟩⟩
  · obtain ⟨hactive, _⟩ := of_offer hoffer
    change Host.Outcome.next (whenActive startAttempt s) = _
    rw [whenActive_of_active hactive, startAttempt, hme, hoffer]
    simp only [hp]
  · intro m rest h
    simp [startHead, onHead, h]
  · intro e rest h
    simp [startHead, onHead, h]
  · intro e rest h
    cases hw : e.work <;> simp [startHead, onHead, startRepair, h, hw]
  · intro f h
    simp [startHead, h]

/-! ### An attempt that does not end in delivery (R80, R81, R84) -/

theorem owedBehind_eq_true {lane : Lane} {l : Lanes} : owedBehind lane l = true ↔ lane = .roll ∧ l.leaveOwed = true := by
  simp [owedBehind]

theorem owedBehind_eq_false {lane : Lane} {l : Lanes} (h : ¬(lane = .roll ∧ l.leaveOwed = true)) : owedBehind lane l = false := by
  rw [← Bool.not_eq_true, owedBehind_eq_true]
  exact h

/-- Settles O32: the two branches of a lost arbitration. -/
theorem lostArbitrationKeepsTheHead : Obligations.LostArbitrationKeepsTheHead := by
  intro s a hactive hsending
  change Host.Outcome.next (whenActive takeArbLost s) = _
  rw [whenActive_of_active hactive, takeArbLost, hsending]
  dsimp only
  by_cases howed : a.lane = .roll ∧ s.link.lanes.leaveOwed = true
  · rw [if_pos (owedBehind_eq_true.mpr howed), if_pos howed]
    rfl
  · rw [if_neg (by rw [owedBehind_eq_false howed]; decide), if_neg howed]

/-- The counters of a collision and of an objection (R81, R84). -/
def countFailure (c : Instr) (l : LinkController) : LinkController :=
  { l with
    collided := if c = .collided then l.collided.bump else l.collided,
    objected := if c = .objected then l.objected.bump else l.objected }

@[simp] theorem countFailure_lanes (c : Instr) (l : LinkController) : (countFailure c l).lanes = l.lanes := rfl

/-- Either way of failing is one failed attempt, counted under its name. -/
theorem exec_failed {c : Instr} {s : State} {a : Attempt} (hc : c = .collided ∨ c = .objected) (hactive : s.active = true)
    (hsending : s.link.sending = some a) :
    exec c s =
      .next (finish (failAttempt (Config.orders s.draws) a.lane (s.drawn.withLink (countFailure c s.link)))) := by
  obtain rfl | rfl := hc
  · change Host.Outcome.next (whenActive (fun s => finish (takeCollided (Config.orders s.draws) s.drawn)) s) = _
    rw [whenActive_of_active hactive, takeCollided, drawn_link, hsending]
    rfl
  · change Host.Outcome.next (whenActive (fun s => finish (takeObjected (Config.orders s.draws) s.drawn)) s) = _
    rw [whenActive_of_active hactive, takeObjected, drawn_link, hsending]
    rfl

@[simp] theorem withLink_withLink (s : State) (x y : LinkController) : (s.withLink x).withLink y = s.withLink y := rfl

theorem failAttempt_owed {o : Orders} {lane : Lane} {s : State} (h : lane = .roll ∧ s.link.lanes.leaveOwed = true) :
    failAttempt o lane s = s.withLink { s.link with sending := none, lanes := placeOwed s.link.lanes } := by
  rw [failAttempt]
  dsimp only
  rw [if_pos (owedBehind_eq_true.mpr h)]
  rfl

/-- The head as its failed attempt leaves it, off the medium. -/
def headFails (lane : Lane) (s : State) : State :=
  s.withLink { s.link with sending := none, lanes := failHead lane s.link.lanes }

theorem headFails_counted (c : Instr) (lane : Lane) (s : State) :
    headFails lane (s.drawn.withLink (countFailure c s.link)) =
      s.drawn.withLink { countFailure c s.link with sending := none, lanes := failHead lane s.link.lanes } := rfl

theorem failAttempt_kept {o : Orders} {lane : Lane} {s : State} (h : ¬(lane = .roll ∧ s.link.lanes.leaveOwed = true))
    (hfew : headFailed lane s.link.lanes + 1 < 8) : failAttempt o lane s = headFails lane s := by
  rw [failAttempt]
  dsimp only
  rw [if_neg (by rw [owedBehind_eq_false h]; decide), if_neg (show ¬attemptLimit ≤ _ from Nat.not_le.mpr hfew)]
  rfl

theorem failAttempt_last {o : Orders} {lane : Lane} {s : State} (h : ¬(lane = .roll ∧ s.link.lanes.leaveOwed = true))
    (hmany : 7 ≤ headFailed lane s.link.lanes) : failAttempt o lane s = undeliver o lane (headFails lane s) := by
  rw [failAttempt]
  dsimp only
  rw [if_neg (by rw [owedBehind_eq_false h]; decide), if_pos (show attemptLimit ≤ _ from Nat.succ_le_succ hmany)]
  rfl

/-- A command that ends with the Link Controller alone changed, no cause among it. -/
theorem finish_withLink {s : State} {l : LinkController} (hcause : s.anyCause = s.engine.healthLevel)
    (hl : l.degraded = s.link.degraded) :
    (finish (s.drawn.withLink l)).link = l ∧ s.sameApartFromLink (finish (s.drawn.withLink l)) := by
  have hsettled : finish (s.drawn.withLink l) = settle (s.drawn.withLink l) :=
    finish_settled _ (by
      change (_ || _ || l.degraded || _) = _
      rw [hl]
      exact hcause)
  rw [hsettled]
  exact ⟨by simp, by simp, by simp, by simp, by simp, by simp, by simp, by simp, by simp, by simp, settle_ann _⟩

/-- Settles O33: the owed LEAVE, the head kept, and the receiver's end of the slot. -/
theorem failedAttemptKeepsTheHead : Obligations.FailedAttemptKeepsTheHead := by
  refine ⟨fun c s a hc hactive hcause hsending howed hfew => ?_, fun c s a hc hactive hcause hsending hroll howed => ?_,
    fun s hactive hcause hsending => ?_, fun l => ⟨?_, ?_, ?_, ?_⟩⟩
  · refine ⟨_, exec_failed hc hactive hsending, ?_⟩
    rw [failAttempt_kept (by simpa using howed) (by simpa using hfew), headFails_counted]
    obtain ⟨hl, happart⟩ := finish_withLink (s := s)
      (l := { countFailure c s.link with sending := none, lanes := failHead a.lane s.link.lanes }) hcause rfl
    refine ⟨?_, happart⟩
    rw [hl]
    rfl
  · refine ⟨_, exec_failed hc hactive hsending, ?_⟩
    rw [failAttempt_owed ⟨hroll, by simpa using howed⟩, withLink_withLink]
    obtain ⟨hl, happart⟩ := finish_withLink (s := s)
      (l := { countFailure c s.link with sending := none, lanes := placeOwed s.link.lanes }) hcause rfl
    refine ⟨?_, happart⟩
    rw [withLink_link, countFailure_lanes, hl]
    rfl
  · have htaken : takeObjected (Config.orders s.draws) s.drawn = s.drawn.withLink { s.link with objecting := false } := by
      rw [takeObjected, drawn_link, hsending]
    refine ⟨_, whenActive_next hactive, ?_⟩
    rw [htaken]
    exact finish_withLink hcause rfl
  · intro m rest h
    simp [failHead, onHead, h]
  · intro e rest h
    simp [failHead, onHead, h]
  · intro e rest h
    simp [failHead, onHead, h]
  · intro f h
    simp [failHead, h]

end Sys2Proof.Machine

/-! PROOFS. The contents of each kind of frame (R15, R16, R19, R87, R105 to R111). -/

namespace Sys2Proof.Machine

theorem seqOf_eq_of_entryState? {st : SeqState} {e : EntryState} (h : entryState? st = some e) : seqOf e = st := by
  cases st <;> cases h <;> rfl

theorem entryState?_isSome {st : SeqState} : (∃ e, entryState? st = some e) ↔ st ≠ .normal := by
  cases st <;> simp [entryState?]

/-- A record of the own DUMP, field by field (R108). -/
theorem of_dumpRecord {s : State} {p : PointNo} {r : DumpRecord} (h : s.dumpRecord? p = some r) :
    r.point = p ∧ seqOf r.state = (s.point p).state ∧ r.revision = (s.point p).revision ∧ r.group = (s.point p).group ∧
      r.foEligible = (s.groupOptions (s.point p).group).firstOut ∧ r.audible = (s.groupOptions (s.point p).group).audible ∧
      (r.fo = true ↔ ∃ n, s.me = some n ∧ s.table.slots[r.group] = some ⟨n, p⟩) := by
  unfold State.dumpRecord? at h
  split at h
  · cases h
  · next st hst =>
    cases h
    refine ⟨rfl, seqOf_eq_of_entryState? hst, rfl, rfl, rfl, rfl, ?_⟩
    rw [Option.any_eq_true]
    exact ⟨fun ⟨n, hn, hslot⟩ => ⟨n, hn, of_decide_eq_true hslot⟩, fun ⟨n, hn, hslot⟩ => ⟨n, hn, decide_eq_true hslot⟩⟩

theorem dumpRecord_isSome {s : State} {p : PointNo} : (∃ r, s.dumpRecord? p = some r) ↔ (s.point p).state ≠ .normal := by
  rw [← entryState?_isSome]
  unfold State.dumpRecord?
  cases entryState? (s.point p).state <;> simp

theorem mem_dumpBody {s : State} {r : DumpRecord} : r ∈ s.dumpBody.records ↔ s.dumpRecord? r.point = some r := by
  simp only [State.dumpBody, List.mem_filterMap, List.mem_finRange, true_and]
  constructor
  · rintro ⟨p, hp⟩
    rw [(of_dumpRecord hp).1]
    exact hp
  · exact fun h => ⟨r.point, h⟩

/-- One term of the digest sum (R140). -/
theorem digestTerm_toNat (p : PointNo) (r : Revision) : (digestTerm p r).toNat = p.val * 256 + r.toNat := by
  unfold digestTerm
  have := p.isLt
  have := r.isLt
  bv_omega

/-- Words add modulo 65536. -/
theorem wordSum_toNat {α : Type} (f : α → BitVec 16) (l : List α) (acc : BitVec 16) :
    ((l.map f).foldl (· + ·) acc).toNat = (acc.toNat + (l.map (fun x => (f x).toNat)).sum) % 65536 := by
  induction l generalizing acc with
  | nil => simp; omega
  | cons x rest ih =>
    rw [List.map_cons, List.foldl_cons, ih, List.map_cons, List.sum_cons, BitVec.toNat_add]
    omega

/-- Settles O31: each frame's contents, block by block. -/
theorem frameContentsFromThePointTable : Obligations.FrameContentsFromThePointTable := by
  intro s
  refine ⟨fun m rest h => ?_, fun e rest h => ?_, fun e rest h => ⟨fun again hw => ?_, fun owners hw => ?_⟩,
    fun f h => ⟨fun c hk hc => ?_, fun hk => ?_, fun hk => ?_⟩, fun img h => ?_, fun p => rfl,
    ⟨rfl, pointsRise_of_pairwise (dumpBody_records_rise s), fun p => ?_, fun r hr => ?_⟩, rfl, rfl, rfl, ?_⟩
  · simp [State.headPayload, h]
  · simp [State.headPayload, h]
  · simp [State.headPayload, h, hw]
  · simp [State.headPayload, h, hw]
  · simp [State.headPayload, h, hk, State.joinBody, hc]
  · simp [State.headPayload, h, hk]
  · simp [State.headPayload, h, hk]
  · refine ⟨by simp only [State.ownInterval, h], ?_⟩
    simp only [State.presenceBody, State.presencePhase, h, imagePresenceMs]
  · rw [← dumpRecord_isSome]
    constructor
    · rintro ⟨r, hr, rfl⟩
      exact ⟨r, mem_dumpBody.mp hr⟩
    · rintro ⟨r, hr⟩
      have hpoint := (of_dumpRecord hr).1
      exact ⟨r, mem_dumpBody.mpr (hpoint ▸ hr), hpoint⟩
  · obtain ⟨_, hstate, hrevision, hgroup, heligible, haudible, hfo⟩ := of_dumpRecord (mem_dumpBody.mp hr)
    exact ⟨hstate, hrevision, hgroup, hgroup ▸ heligible, hgroup ▸ haudible, hfo⟩
  · change (State.digestSum s).toNat = _
    rw [State.digestSum, wordSum_toNat]
    simp only [digestTerm_toNat, State.offNormal]
    simp

end Sys2Proof.Machine

/-! PROOFS. The receiver of the Service Port (R182, R183, R186, R187), and what changes the setup store (R173). -/

namespace Sys2Proof.Machine

/-! ### The receiver -/

/-- The OK response of a SETUP, byte by byte (R115, R187). -/
theorem owedBytes : responseBytes setupKind .ok [] = [6#8, 0#8, 0#8, 0#8, 0xFA#8] := by decide

theorem tryOwed_of_free {s : State}
    (h : s.service.answerOwed = true ∧ s.control.storeWrite = none ∧ s.service.response = none ∧ s.service.rx = none) :
    tryOwed s =
      s.withService { s.service with response := some [6#8, 0#8, 0#8, 0#8, 0xFA#8], answerOwed := false } := by
  rw [tryOwed, if_pos h, owedBytes]

theorem tryOwed_of_held {s : State}
    (h : ¬(s.service.answerOwed = true ∧ s.control.storeWrite = none ∧ s.service.response = none ∧ s.service.rx = none)) :
    tryOwed s = s := by
  rw [tryOwed, if_neg h]

/-- With no response in progress a byte joins the buffer held, or begins one (R183). -/
theorem serviceByte_idle {s : State} {b : Byte} (h : s.portLive = true) (hr : s.service.response = none) :
    serviceByte s b = holdBuffer (match s.service.rx with | none => firstByte b | some r => r.add b) s := by
  rw [serviceByte, if_pos h]
  cases hx : s.service.rx <;> simp only [hr]

theorem discardRequest_of_owed {s : State}
    (h : s.service.answerOwed = true ∧ s.control.storeWrite = none ∧ s.service.response = none) :
    discardRequest s =
      s.withService
        { rx := none, gap := .stopped, response := some [6#8, 0#8, 0#8, 0#8, 0xFA#8], answerOwed := false,
          errors := s.service.errors.bump } := by
  obtain ⟨howed, hwrite, hresponse⟩ := h
  exact (tryOwed_of_free (s := countServiceError (s.withService { s.service with rx := none, gap := .stopped }))
    ⟨howed, hwrite, hresponse, rfl⟩).trans rfl

theorem discardRequest_of_not_owed {s : State}
    (h : ¬(s.service.answerOwed = true ∧ s.control.storeWrite = none ∧ s.service.response = none)) :
    discardRequest s =
      s.withService { s.service with rx := none, gap := .stopped, errors := s.service.errors.bump } := by
  exact tryOwed_of_held (s := countServiceError (s.withService { s.service with rx := none, gap := .stopped }))
    fun ⟨howed, hwrite, hresponse, _⟩ => h ⟨howed, hwrite, hresponse⟩

/-- Settles O49: the receiver byte by byte, the two discards, and the end of a response. -/
theorem serviceReceiverTakesBytes : Obligations.ServiceReceiverTakesBytes := by
  refine ⟨fun s => ⟨stxPin_in_reset s, fun hr hst => ?_, stxPin_idle s, fun bytes => stxPin_sending s bytes⟩,
    fun s b h => congrArg _ (serviceByte_not_live s b h), fun s h => ⟨fun b r hr => ?_, fun b hr hx => ?_, fun b r hr hx hc => ?_,
      fun b r hr hx hc => ?_, fun c hc => ?_, fun hr => ⟨fun howed => ?_, fun hnot => ?_⟩⟩⟩
  · rw [State.stxPin, if_neg (by simp [hr]), if_pos hst]
  · exact congrArg _ (serviceByte_busy s b h (by simp [hr]))
  · refine congrArg _ ((serviceByte_idle h hr).trans ?_)
    simp only [hx]
    rw [holdBuffer, if_neg (by simp [RxBuffer.complete, firstByte])]
    rfl
  · refine congrArg _ ((serviceByte_idle h hr).trans ?_)
    simp only [hx]
    rw [holdBuffer, if_neg (by simp [hc])]
    rfl
  · refine congrArg _ ((serviceByte_idle h hr).trans ?_)
    simp only [hx]
    rw [holdBuffer, if_pos hc]
  · have hexec : exec c s = .next (discardRequest s) := by
      obtain ⟨rfl, hx, hgap⟩ | rfl := hc
      · exact congrArg _ (if_pos ⟨h, Option.isSome_iff_ne_none.mpr hx, hgap⟩)
      · exact congrArg _ (if_pos h)
    rw [hexec]
    exact ⟨fun howed => congrArg _ (discardRequest_of_owed howed), fun hnot => congrArg _ (discardRequest_of_not_owed hnot)⟩
  · obtain ⟨howed, hwrite, hx⟩ := howed
    refine congrArg _ ((if_pos ⟨h, Option.isSome_iff_ne_none.mpr hr⟩).trans ?_)
    exact tryOwed_of_free (s := s.withService { s.service with response := none }) ⟨howed, hwrite, rfl, hx⟩
  · refine congrArg _ ((if_pos ⟨h, Option.isSome_iff_ne_none.mpr hr⟩).trans ?_)
    exact tryOwed_of_held (s := s.withService { s.service with response := none })
      fun ⟨howed, hwrite, _, hx⟩ => hnot ⟨howed, hwrite, hx⟩

/-! ### What keeps the stored image and its status (R173) -/

/-- The stored image and its status. -/
def State.stored (s : State) : Image × StoreStatus := (s.control.storeImage, s.control.storeStatus)

theorem stored_of_control {s t : State} (h : t.control = s.control) : t.stored = s.stored := by
  rw [State.stored, State.stored, h]

theorem leaveState_stored (s : State) : (leaveState s).stored = s.stored := by
  unfold leaveState
  split <;> rfl

theorem enterSilent_stored (o : Orders) (st : StationState) (s : State) : (enterSilent o st s).stored = s.stored := by
  have hleave := leaveState_stored s
  rw [State.stored, State.stored] at hleave ⊢
  rw [enterSilent_control]
  exact hleave

theorem joinCore_stored (c : JoinCause) (s : State) : (joinCore c s).stored = s.stored := leaveState_stored s

theorem enterRunning_stored (s : State) : (enterRunning s).stored = s.stored := leaveState_stored s

theorem enterDeparting_stored (s : State) : (enterDeparting s).stored = s.stored := leaveState_stored s

theorem enterJoining_stored (o : Orders) (c : JoinCause) (s : State) : (enterJoining o c s).stored = s.stored := by
  unfold enterJoining
  dsimp only
  split
  · rw [enterSilent_stored, joinCore_stored]
  · exact joinCore_stored c s

theorem enterDeparted_stored (o : Orders) (s : State) : (enterDeparted o s).stored = s.stored := by
  unfold enterDeparted
  dsimp only
  split
  · rw [joinCore_stored, enterSilent_stored]
  · exact enterSilent_stored o _ s

theorem enterIsolated_stored (o : Orders) (s : State) : (enterIsolated o s).stored = s.stored := by
  have hheld : (startHold (enterSilent o .isolated s)).stored = s.stored := enterSilent_stored o .isolated s
  unfold enterIsolated
  dsimp only
  split
  · rw [enterSilent_stored, hheld]
  · exact hheld

theorem takeWarning_stored (o : Orders) (s : State) : (takeWarning o s).stored = s.stored := by
  unfold takeWarning
  split
  · exact enterDeparted_stored o s
  · split
    · exact enterDeparting_stored s
    · exact enterDeparted_stored o s
  · exact enterDeparting_stored s
  · exact enterDeparted_stored o s
  · rfl

theorem takeRelease_stored (o : Orders) (s : State) : (takeRelease o s).stored = s.stored := by
  unfold takeRelease
  split
  · exact enterJoining_stored o _ s
  · rfl

theorem enterListening_stored (o : Orders) (img : Image) (s : State) : (enterListening o img s).stored = s.stored := by
  have hsetup : (healthSync (setupTakesEffect img s)).stored = s.stored :=
    stored_of_control (s := setupTakesEffect img s) (healthSync_control _)
  unfold enterListening
  dsimp only
  split
  · rw [enterSilent_stored, hsetup]
  · exact hsetup

theorem setupWindowExpiry_stored (o : Orders) (s : State) : (setupWindowExpiry o s).stored = s.stored := by
  unfold setupWindowExpiry
  split
  · dsimp only
    split
    · split
      · rfl
      · rw [enterListening_stored]; rfl
    · rfl
  · rfl

theorem awaitedRemove_stored (n : StationNo) (s : State) : (awaitedRemove n s).stored = s.stored := by
  unfold awaitedRemove
  split
  · dsimp only
    split
    · rw [enterRunning_stored]; rfl
    · rfl
  · rfl

theorem handOnLoss_stored (o : Orders) (n : StationNo) (s : State) : (handOnLoss o n s).stored = s.stored := by
  unfold handOnLoss
  rw [awaitedRemove_stored]
  exact stored_of_control (by simp)

theorem failAttempt_stored (o : Orders) (lane : Lane) (s : State) : (failAttempt o lane s).stored = s.stored := by
  have hundeliver (u : State) : (undeliver o lane u).stored = u.stored := by
    unfold undeliver
    dsimp only
    split
    · rw [enterIsolated_stored]
      exact stored_of_control (by simp)
    · split
      · rw [enterDeparted_stored]
        exact stored_of_control (by simp)
      · exact stored_of_control (by simp)
  unfold failAttempt
  dsimp only
  split
  · rfl
  · split
    · rw [hundeliver]; rfl
    · rfl

/-- A delivery keeps the store where the frame's own effects keep it. -/
theorem deliver_stored {o : Orders} {f : Frame} {own other : State → State} (hown : ∀ u, (own u).stored = u.stored)
    (hother : ∀ u, (other u).stored = u.stored) (s : State) : (deliver o f own other s).stored = s.stored := by
  have hreceive : (deliver.receive o f other s).stored = s.stored := by
    unfold deliver.receive
    split
    · dsimp only
      split
      · split
        · exact enterSilent_stored o _ _
        · rfl
      · exact hother _
    · rfl
  unfold deliver
  split
  · split
    · split
      · exact (hown _).trans (stored_of_control (ownDelivered_control ..))
      · exact hreceive
    · exact hreceive
  · rfl

theorem runIfNoneAwaited_stored (s : State) : (runIfNoneAwaited s).stored = s.stored := by
  unfold runIfNoneAwaited
  split
  · exact enterRunning_stored s
  · rfl

theorem ownJoin_stored (src : StationNo) (b : JoinBody) (s : State) : (ownJoin src b s).stored = s.stored := by
  unfold ownJoin
  split
  · rw [runIfNoneAwaited_stored]
    refine stored_of_control ?_
    rw [removeJoiner, takeChange_control, requestDump_control]
    exact recordOwnCause_control _ _
  · rfl

theorem withdrawAll_control (owners : List StationNo) (s : State) :
    (owners.foldl (fun s n => withdrawOwner n s) s).control = s.control := by
  induction owners generalizing s with
  | nil => rfl
  | cons n rest ih => rw [List.foldl_cons, ih, withdrawOwner_control]

theorem receiveResync_stored (src : StationNo) (owners : List StationNo) (s : State) :
    (receiveResync src owners s).stored = s.stored := by
  refine stored_of_control ?_
  rw [receiveResync]
  rw [withdrawAll_control]
  split <;> simp

theorem receiveJoin_stored (src : StationNo) (b : JoinBody) (s : State) : (receiveJoin src b s).stored = s.stored := by
  refine stored_of_control ?_
  rw [receiveJoin]
  split <;> simp [removeJoiner]

theorem receiveOperator_stored (src : StationNo) (b : OperatorBody) (s : State) : (receiveOperator src b s).stored = s.stored := by
  refine stored_of_control ?_
  rw [receiveOperator]
  split <;> simp

theorem receiveDump_stored (o : Orders) (src : StationNo) (b : DumpBody) (s : State) : (receiveDump o src b s).stored = s.stored := by
  have hboth (u : State) : (repairAndTable o src b u).control = u.control := by
    unfold repairAndTable
    split <;> simp [applyDumpOf]
  rw [receiveDump, stored_of_control (hboth _), awaitedRemove_stored]
  exact stored_of_control (rosterTake_control ..)

theorem receivePresence_stored (o : Orders) (src : StationNo) (b : PresenceBody) (s : State) :
    (receivePresence o src b s).stored = s.stored := by
  have hrestart (u : State) : (restartCheck src b.restartCount u).control = u.control := by
    unfold restartCheck
    split
    · rfl
    · split
      · rfl
      · simp
  have hcadence (u : State) : (adoptCadence src b.phase u).control = u.control := by
    unfold adoptCadence
    split <;> rfl
  refine stored_of_control ?_
  rw [receivePresence]
  rw [hcadence, compareIf_control, hrestart]
  exact (compareIf_control ..).trans ((revive_control ..).trans (compareIf_control ..))

theorem ownLeave_stored (o : Orders) (s : State) : (ownLeave o s).stored = s.stored := by
  unfold ownLeave
  split
  · exact enterDeparted_stored o s
  · rfl

theorem finish_stored (s : State) : (finish s).stored = s.stored := stored_of_control (finish_control s)

theorem whenActive_stored {f : State → State} (h : ∀ u, (f u).stored = u.stored) (s : State) :
    (whenActive f s).stored = s.stored := by
  unfold whenActive
  split
  · exact h s
  · rfl

theorem whenAwake_stored {f : State → State} (h : ∀ u, (f u).stored = u.stored) (s : State) : (whenAwake f s).stored = s.stored := by
  unfold whenAwake
  split
  · rfl
  · exact h s

end Sys2Proof.Machine

/-! PROOFS. The setup store changes only by the write (R173). -/

namespace Sys2Proof.Machine

/-! ### The bytes of the Service Port (R171, R173) -/

/-- What service bytes may do to Station Control: nothing, or accept a SETUP in SETUP_WAIT. -/
def State.acceptsAtMost (s t : State) : Prop :=
  t.control = s.control ∨
    (s.control.setupAccepted = false ∧ s.control.station = .setupWait ∧
      ∃ img, t.control =
        { s.control with setupAccepted := true, storeStatus := .corrupt, storeWrite := some img, station := .storing })

theorem State.acceptsAtMost.trans {s t u : State} (h : s.acceptsAtMost t) (h' : t.acceptsAtMost u) : s.acceptsAtMost u := by
  obtain heq | ⟨haccepted, hst, img, heq⟩ := h
  · rw [State.acceptsAtMost, heq] at h'
    exact h'
  · obtain heq' | ⟨haccepted', _⟩ := h'
    · exact .inr ⟨haccepted, hst, img, heq'.trans heq⟩
    · simp [heq] at haccepted'

theorem takeRequest_accepts (q : Request) (s : State) : s.acceptsAtMost (takeRequest q s) := by
  unfold takeRequest
  split
  · exact .inl rfl
  · next img h =>
    obtain ⟨haccepted, hst, _⟩ := of_judgeRequest_accepted h
    exact .inr ⟨haccepted, hst, img, rfl⟩

theorem holdBuffer_accepts (r : RxBuffer) (s : State) : s.acceptsAtMost (holdBuffer r s) := by
  unfold holdBuffer
  split
  · exact takeRequest_accepts _ (s.withService { s.service with rx := none, gap := .stopped })
  · exact .inl rfl

theorem serviceByte_accepts (s : State) (b : Byte) : s.acceptsAtMost (serviceByte s b) := by
  unfold serviceByte
  split
  · split
    · exact .inl rfl
    · exact holdBuffer_accepts _ s
    · exact holdBuffer_accepts _ s
  · exact .inl rfl

theorem serviceBytes_accept (bytes : List Byte) (s : State) : s.acceptsAtMost (bytes.foldl serviceByte s) := by
  induction bytes generalizing s with
  | nil => exact .inl rfl
  | cons b rest ih => exact (serviceByte_accepts s b).trans (ih _)

/-! ### Every command -/

/-- The store is as it was, but for its status where a SETUP has been accepted. -/
def State.storeStands (s t : State) : Prop :=
  t.stored = s.stored ∨
    (t.control.storeImage = s.control.storeImage ∧ s.control.station = .setupWait ∧ t.control.storeStatus = .corrupt ∧
      t.control.setupAccepted = true)

theorem storeStands_of_accepts {s t : State} (h : s.acceptsAtMost t) : s.storeStands t := by
  obtain heq | ⟨_, hst, img, heq⟩ := h
  · exact .inl (stored_of_control heq)
  · exact .inr ⟨by rw [heq], hst, by rw [heq], by rw [heq]⟩

theorem tryOwed_control (s : State) : (tryOwed s).control = s.control := by
  unfold tryOwed
  split <;> rfl

/-- A completed write stores its image (R173). -/
theorem storeWriteComplete_stored (o : Orders) (s : State) :
    (storeWriteComplete o s).stored = s.stored ∨
      ∃ img, s.control.storeWrite = some img ∧ (storeWriteComplete o s).stored = (img, .valid) := by
  unfold storeWriteComplete
  split
  · split
    · next img h =>
      refine .inr ⟨img, h, (stored_of_control (tryOwed_control _)).trans ?_⟩
      split
      · rfl
      · rw [enterListening_stored]; rfl
    · exact .inl rfl
  · exact .inl rfl

theorem leaveReset_stored (straps : BitVec 6) (s : State) : (leaveReset straps s).stored = s.stored := by
  unfold leaveReset
  split <;> rfl

theorem takeLeave_stored (o : Orders) (n : StationNo) (s : State) : (takeLeave o n s).stored = s.stored :=
  handOnLoss_stored o n (s.setMember n { s.member n with state := .left, silence := .stopped })

theorem silenceExpiry_stored (o : Orders) (n : StationNo) (s : State) : (silenceExpiry o n s).stored = s.stored := by
  unfold silenceExpiry
  dsimp only
  split
  · exact handOnLoss_stored o n (s.setMember n { s.member n with state := .lost, silence := .stopped })
  · rfl

theorem supplyWarning_stored (o : Orders) (s : State) : (supplyWarning o s).stored = s.stored := by
  unfold supplyWarning
  split
  · exact takeWarning_stored o (setSupply .low s)
  · rfl

theorem supplyRelease_stored (o : Orders) (s : State) : (supplyRelease o s).stored = s.stored := by
  unfold supplyRelease
  split
  · exact takeRelease_stored o (setSupply .normal s)
  · rfl

theorem listenExpiry_stored (o : Orders) (s : State) : (listenExpiry o s).stored = s.stored := by
  unfold listenExpiry
  split
  · exact enterJoining_stored o _ s
  · rfl

theorem holdExpiry_stored (o : Orders) (s : State) : (holdExpiry o s).stored = s.stored := by
  unfold holdExpiry
  split
  · exact enterJoining_stored o _ s
  · rfl

theorem joinWindowExpiry_stored (s : State) : (joinWindowExpiry s).stored = s.stored := by
  unfold joinWindowExpiry
  split
  · exact enterRunning_stored s
  · rfl

theorem takeCollided_stored (o : Orders) (s : State) : (takeCollided o s).stored = s.stored := by
  unfold takeCollided
  split
  · exact failAttempt_stored o _ (s.withLink { s.link with collided := s.link.collided.bump })
  · rfl

theorem takeObjected_stored (o : Orders) (s : State) : (takeObjected o s).stored = s.stored := by
  unfold takeObjected
  split
  · exact failAttempt_stored o _ (s.withLink { s.link with objected := s.link.objected.bump })
  · rfl

theorem takeReport_stored (o : Orders) (src : StationNo) (b : PointReport) (s : State) : (takeReport o src b s).stored = s.stored :=
  deliver_stored (fun _ => stored_of_control (takeChange_control ..))
    (fun _ => (stored_of_control (takeChange_control ..)).trans (stored_of_control (rosterTake_control ..))) s

theorem takeDump_stored (o : Orders) (src : StationNo) (b : DumpBody) (s : State) : (takeDump o src b s).stored = s.stored :=
  deliver_stored (fun _ => stored_of_control (takeChange_control ..)) (receiveDump_stored o src b) s

theorem inputChange_control (i : LineNo) (high : Bool) (s : State) : (inputChange i high s).control = s.control := by
  unfold inputChange timeInput
  split <;> rfl

theorem buttonChange_control (k : Button) (high : Bool) (s : State) : (buttonChange k high s).control = s.control := by
  unfold buttonChange timeButton
  split <;> rfl

theorem mismatchExpiry_control (k : LineNo) (s : State) : (mismatchExpiry k s).control = s.control := by
  unfold mismatchExpiry
  split <;> rfl

theorem agreementExpiry_control (k : LineNo) (s : State) : (agreementExpiry k s).control = s.control := by
  unfold agreementExpiry
  split <;> rfl

theorem advancePhase_control (s : State) : (advancePhase s).control = s.control := by
  unfold advancePhase whenActive
  split <;> rfl

theorem gapExpiry_control (s : State) : (gapExpiry s).control = s.control := by
  unfold gapExpiry
  split
  · exact tryOwed_control _
  · rfl

theorem framingFault_control (s : State) : (framingFault s).control = s.control := by
  unfold framingFault
  split
  · exact tryOwed_control _
  · rfl

theorem endResponse_control (s : State) : (endResponse s).control = s.control := by
  unfold endResponse
  split
  · exact tryOwed_control _
  · rfl

/-- A command of the running blocks that ends by settling. -/
theorem finished_stored {f : State → State} (h : ∀ u, (f u).stored = u.stored) (s : State) :
    (whenActive (fun s => finish (f s)) s).stored = s.stored :=
  whenActive_stored (fun u => (finish_stored _).trans (h u)) s

/-- Such a command that draws a free value first. -/
theorem finished_drawn_stored {f : Orders → State → State} (h : ∀ o u, (f o u).stored = u.stored) (s : State) :
    (whenActive (fun s => finish (f (Config.orders s.draws) s.drawn)) s).stored = s.stored :=
  finished_stored (f := fun u => f (Config.orders u.draws) u.drawn) (fun u => h _ u.drawn) s

/-- Such a command that the part takes outside reset. -/
theorem awake_drawn_stored {f : Orders → State → State} (h : ∀ o u, (f o u).stored = u.stored) (s : State) :
    (whenAwake (fun s => finish (f (Config.orders s.draws) s.drawn)) s).stored = s.stored :=
  whenAwake_stored (f := fun u => finish (f (Config.orders u.draws) u.drawn)) (fun u => (finish_stored _).trans (h _ u.drawn)) s

/-- Every command but the end of a write and a reset leaves the store, or accepts a SETUP. -/
theorem exec_storeStands (c : Instr) (s : State) :
    (c = .storeWriteComplete ∨ c = .powerOn ∨ c = .resetPin ∨ c = .supplyLow) ∨ ∃ t, exec c s = .next t ∧ s.storeStands t := by
  cases c
  case powerOn | resetPin | supplyLow | storeWriteComplete => exact .inl (by simp)
  case leaveReset straps => exact .inr ⟨_, rfl, .inl (leaveReset_stored straps s)⟩
  case setupWindowExpiry => exact .inr ⟨_, rfl, .inl (awake_drawn_stored setupWindowExpiry_stored s)⟩
  case supplyWarning => exact .inr ⟨_, rfl, .inl (awake_drawn_stored supplyWarning_stored s)⟩
  case supplyRelease => exact .inr ⟨_, rfl, .inl (awake_drawn_stored supplyRelease_stored s)⟩
  case inputLevelChange i high => exact .inr ⟨_, rfl, .inl (stored_of_control (inputChange_control i high s))⟩
  case qualificationTimerExpiry i =>
    exact .inr ⟨_, rfl, .inl (finished_stored (fun u => stored_of_control (qualificationExpiry_control i u)) s)⟩
  case buttonLevelChange k high => exact .inr ⟨_, rfl, .inl (stored_of_control (buttonChange_control k high s))⟩
  case buttonQualificationExpiry k =>
    exact .inr ⟨_, rfl, .inl (finished_stored (fun u => stored_of_control (buttonExpiry_control k u)) s)⟩
  case listenWindowExpiry => exact .inr ⟨_, rfl, .inl (finished_drawn_stored listenExpiry_stored s)⟩
  case joinWindowExpiry => exact .inr ⟨_, rfl, .inl (finished_stored joinWindowExpiry_stored s)⟩
  case isolationHoldExpiry => exact .inr ⟨_, rfl, .inl (finished_drawn_stored holdExpiry_stored s)⟩
  case presenceTimerExpiry =>
    exact .inr ⟨_, rfl, .inl (whenActive_stored (fun u => stored_of_control (presenceExpiry_control u)) s)⟩
  case silenceTimerExpiry n =>
    exact .inr ⟨_, rfl, .inl (finished_drawn_stored (f := fun o => silenceExpiry o n) (fun o => silenceExpiry_stored o n) s)⟩
  case repairTimerExpiry n =>
    exact .inr ⟨_, rfl, .inl (finished_stored (fun u => stored_of_control (repairExpiry_control n u)) s)⟩
  case cadenceTick =>
    refine .inr ⟨_, rfl, .inl (whenAwake_stored (fun u => ?_) s)⟩
    exact stored_of_control (s := tickTimers u) ((settle_control _).trans (advancePhase_control _))
  case outputSenseChange k high =>
    exact .inr ⟨_, rfl, .inl (stored_of_control ((settle_control _).trans (senseChange_control k high s)))⟩
  case mismatchTimerExpiry k =>
    exact .inr ⟨_, rfl, .inl (finished_stored (fun u => stored_of_control (mismatchExpiry_control k u)) s)⟩
  case agreementTimerExpiry k =>
    exact .inr ⟨_, rfl, .inl (finished_stored (fun u => stored_of_control (agreementExpiry_control k u)) s)⟩
  case attemptStart => exact .inr ⟨_, rfl, .inl (whenActive_stored (fun u => stored_of_control (startAttempt_control u)) s)⟩
  case arbLost => exact .inr ⟨_, rfl, .inl (whenActive_stored (fun u => stored_of_control (takeArbLost_control u)) s)⟩
  case collided => exact .inr ⟨_, rfl, .inl (finished_drawn_stored takeCollided_stored s)⟩
  case frameReceivedCorrupt bytes => exact .inr ⟨_, rfl, .inl (stored_of_control (takeCorrupt_control bytes s))⟩
  case objected => exact .inr ⟨_, rfl, .inl (finished_drawn_stored takeObjected_stored s)⟩
  case reportDelivered src b =>
    exact .inr ⟨_, rfl, .inl (finished_drawn_stored (f := fun o => takeReport o src b) (fun o => takeReport_stored o src b) s)⟩
  case operatorDelivered src b =>
    exact .inr ⟨_, rfl, .inl (finished_drawn_stored (f := fun o => takeOperator o src b)
      (fun o => deliver_stored (fun _ => rfl) (receiveOperator_stored src b)) s)⟩
  case resyncRequestDelivered src owners =>
    exact .inr ⟨_, rfl, .inl (finished_drawn_stored (f := fun o => takeResync o src owners)
      (fun o => deliver_stored (fun _ => rfl) (receiveResync_stored src owners)) s)⟩
  case dumpDelivered src b =>
    exact .inr ⟨_, rfl, .inl (finished_drawn_stored (f := fun o => takeDump o src b) (fun o => takeDump_stored o src b) s)⟩
  case joinDelivered src b =>
    exact .inr ⟨_, rfl, .inl (finished_drawn_stored (f := fun o => takeJoin o src b)
      (fun o => deliver_stored (ownJoin_stored src b) (receiveJoin_stored src b)) s)⟩
  case presenceDelivered src b =>
    exact .inr ⟨_, rfl, .inl (finished_drawn_stored (f := fun o => takePresence o src b)
      (fun o => deliver_stored (fun _ => rfl) (receivePresence_stored o src b)) s)⟩
  case leaveDelivered src c =>
    exact .inr ⟨_, rfl, .inl (finished_drawn_stored (f := fun o => takeLeaveFrame o src c)
      (fun o => deliver_stored (ownLeave_stored o) (takeLeave_stored o src)) s)⟩
  case serviceByteReceived b => exact .inr ⟨_, rfl, storeStands_of_accepts (serviceByte_accepts s b)⟩
  case serviceGapTimerExpiry => exact .inr ⟨_, rfl, .inl (stored_of_control (gapExpiry_control s))⟩
  case serviceFramingFault => exact .inr ⟨_, rfl, .inl (stored_of_control (framingFault_control s))⟩
  case responseComplete => exact .inr ⟨_, rfl, .inl (stored_of_control (endResponse_control s))⟩
  case status | readTable | readRoster | readPoints | readSetup | setup | unknownRequestKind =>
    exact .inr ⟨_, rfl, storeStands_of_accepts (serviceBytes_accept _ s)⟩
  case interframeGapSensed => exact .inr ⟨_, rfl, .inl (whenActive_stored (f := senseGap) (fun _ => rfl) s)⟩

/-- Settles O58: the end of a write, a reset, and every other command. -/
theorem storeChangesOnlyByTheWrite : Obligations.StoreChangesOnlyByTheWrite := by
  intro c s t hexec
  obtain hc | ⟨u, hu, hstands⟩ := exec_storeStands c s
  · obtain rfl | hreset := hc
    · have hstored : t.stored = s.stored ∨ ∃ img, s.control.storeWrite = some img ∧ t.stored = (img, .valid) := by
        cases hexec
        unfold whenAwake
        split
        · exact .inl rfl
        · rw [finish_stored]
          exact storeWriteComplete_stored (Config.orders s.draws) s.drawn
      obtain hsame | ⟨img, hwrite, hdone⟩ := hstored
      · exact ⟨fun h => absurd (congrArg Prod.fst hsame) h, fun h => absurd (congrArg Prod.snd hsame) h⟩
      · exact ⟨fun _ => ⟨by simp [hwrite], .inl rfl⟩, fun _ => .inl ⟨rfl, congrArg Prod.snd hdone⟩⟩
    · obtain ⟨t', ht', hreads⟩ := resetCommandsRestoreEveryBlock c s hreset
      obtain rfl : t' = t := by
        rw [hexec] at ht'
        cases ht'
        rfl
      obtain ⟨-, -, -, -, -, -, -, -, -, -, -, -, -, -, -, -, -, -, hstatus, -, -, -, himage, -⟩ := hreads
      exact ⟨fun h => ⟨fun hidle => h (himage hidle), .inr hreset⟩, fun h => absurd hstatus h⟩
  · obtain rfl : u = t := by
      rw [hexec] at hu
      cases hu
      rfl
    obtain hsame | ⟨himage, hst, hstatus, haccepted⟩ := hstands
    · exact ⟨fun h => absurd (congrArg Prod.fst hsame) h, fun h => absurd (congrArg Prod.snd hsame) h⟩
    · exact ⟨fun h => absurd himage h, fun _ => .inr ⟨hst, hstatus, haccepted⟩⟩

end Sys2Proof.Machine

/-! PROOFS. The setup window's expiry, the completed write, and the setup as it takes effect (R2, R20, R27, R31, R117, R173 to R175,
R187). -/

namespace Sys2Proof.Machine

/-! ### The entry into LISTENING (R175, R178) -/

theorem leaveState_of_listening {s : State} (h : s.control.station = .listening) :
    leaveState s = s.withRoster { s.roster with listenWindow := .stopped } := by
  unfold leaveState
  rw [h]

theorem enterListening_control (o : Orders) (img : Image) (s : State) :
    (enterListening o img s).control =
      { s.control with station := if s.control.supply = .low then .departed else .listening, loaded := some img } := by
  have hsetup : (healthSync (setupTakesEffect img s)).control = { s.control with station := .listening, loaded := some img } :=
    healthSync_control _
  unfold enterListening
  dsimp only
  rw [hsetup]
  split
  · rw [enterSilent_control, leaveState_of_listening (congrArg StationControl.station hsetup), withRoster_control, hsetup]
  · exact hsetup

theorem enterListening_of_normal {o : Orders} {img : Image} {s : State} (h : s.control.supply = .normal) :
    enterListening o img s = healthSync (setupTakesEffect img s) := by
  have hsupply : (healthSync (setupTakesEffect img s)).control.supply = .normal :=
    (congrArg StationControl.supply (healthSync_control (setupTakesEffect img s))).trans h
  unfold enterListening
  dsimp only
  rw [if_neg (by rw [hsupply]; decide)]

theorem exec_setupWindowExpiry {s : State} (h : s.control.inReset = false) :
    exec .setupWindowExpiry s = .next (finish (setupWindowExpiry (Config.orders s.draws) s.drawn)) :=
  congrArg _ (whenAwake_of_awake h)

theorem exec_storeWriteComplete {s : State} (h : s.control.inReset = false) :
    exec .storeWriteComplete s = .next (finish (storeWriteComplete (Config.orders s.draws) s.drawn)) :=
  congrArg _ (whenAwake_of_awake h)

theorem setupWindowExpiry_of_refused {o : Orders} {s : State} {r : Reason} (hst : s.control.station = .setupWait)
    (hrun : s.control.setupWindow.isRunning = true) (h : examineStore s = .inl r) :
    setupWindowExpiry o s = enterUnconfigured r (s.withControl { s.control with setupWindow := .stopped }) := by
  unfold setupWindowExpiry
  rw [if_pos hrun]
  dsimp only
  rw [if_pos hst, h]

theorem setupWindowExpiry_of_loaded {o : Orders} {s : State} {img : Image} (hst : s.control.station = .setupWait)
    (hrun : s.control.setupWindow.isRunning = true) (h : examineStore s = .inr img) :
    setupWindowExpiry o s = enterListening o img (s.withControl { s.control with setupWindow := .stopped }) := by
  unfold setupWindowExpiry
  rw [if_pos hrun]
  dsimp only
  rw [if_pos hst, h]

theorem examineStore_of_loaded {s : State} (hvalid : s.control.storeStatus = .valid) (himg : imageValid s.control.storeImage = true)
    (hme : s.me ≠ none) : examineStore s = .inr s.control.storeImage := by
  simp [examineStore, hvalid, himg, hme]

theorem storeWriteComplete_of_storing {o : Orders} {s : State} {img : Image} (hst : s.control.station = .storing)
    (hw : s.control.storeWrite = some img) :
    storeWriteComplete o s =
      tryOwed (if s.me = none then enterUnconfigured .strapInvalid (storeDone img s) else enterListening o img (storeDone img s)) := by
  unfold storeWriteComplete
  rw [if_pos hst, hw]

/-- Settles O7: the three refusals and the load of R174. -/
theorem windowExpiryExaminesStore : Obligations.WindowExpiryExaminesStore := by
  intro s hawake hst hrun
  refine ⟨_, exec_setupWindowExpiry hawake, ?_⟩
  have hstored := (finish_stored _).trans (setupWindowExpiry_stored (Config.orders s.draws) s.drawn)
  have himage : (finish (setupWindowExpiry (Config.orders s.draws) s.drawn)).control.storeImage = s.control.storeImage :=
    congrArg Prod.fst hstored
  have hstatus : (finish (setupWindowExpiry (Config.orders s.draws) s.drawn)).control.storeStatus = s.control.storeStatus :=
    congrArg Prod.snd hstored
  refine ⟨fun hblank => ?_, fun hcorrupt => ?_, fun hvalid himg hme => ?_, fun hvalid himg hme => ?_, himage, hstatus⟩
  all_goals rw [finish_control]
  · rw [setupWindowExpiry_of_refused (s := s.drawn) (r := .storeBlank) hst hrun (by simp [examineStore, hblank])]
    exact ⟨rfl, rfl⟩
  · have hexamine : examineStore s.drawn = .inl .storeCorrupt := by
      obtain hcorrupt | ⟨hvalid, himg⟩ := hcorrupt
      · simp [examineStore, hcorrupt]
      · simp [examineStore, hvalid, himg]
    rw [setupWindowExpiry_of_refused (s := s.drawn) hst hrun hexamine]
    exact ⟨rfl, rfl⟩
  · have hme' : s.drawn.me = none := hme
    rw [setupWindowExpiry_of_refused (s := s.drawn) (r := .strapInvalid) hst hrun (by simp [examineStore, hvalid, himg, hme'])]
    exact ⟨rfl, rfl⟩
  · rw [setupWindowExpiry_of_loaded (s := s.drawn) hst hrun (examineStore_of_loaded (s := s.drawn) hvalid himg hme),
      enterListening_control]
    exact ⟨rfl, rfl⟩

/-! ### The completed write (R173, R187) -/

theorem enterListening_service (o : Orders) (img : Image) (s : State) : (enterListening o img s).service = s.service := by
  have hsetup : (healthSync (setupTakesEffect img s)).service = s.service := healthSync_service _
  unfold enterListening
  dsimp only
  split
  · rw [← hsetup]
    simp
  · exact hsetup

/-- Settles O9: the write is stored before the station moves, and the owed OK follows. -/
theorem storeWriteCompletionLoadsSetup : Obligations.StoreWriteCompletionLoadsSetup := by
  intro s img hawake hst hw
  refine ⟨_, exec_storeWriteComplete hawake, ?_⟩
  rw [finish_control, finish_service, storeWriteComplete_of_storing (s := s.drawn) hst hw, tryOwed_control]
  generalize hu : (if s.drawn.me = none then enterUnconfigured .strapInvalid (storeDone img s.drawn)
    else enterListening (Config.orders s.draws) img (storeDone img s.drawn)) = u
  have hme : s.drawn.me = s.me := rfl
  have hcontrol : u.control.storeImage = img ∧ u.control.storeStatus = .valid ∧ u.control.storeWrite = none ∧
      u.control.loaded = some img ∧ (s.me = none → u.control.station = .unconfigured ∧ u.control.reason = .strapInvalid) ∧
      (s.me ≠ none → u.control.station = if s.control.supply = .low then .departed else .listening) := by
    rw [← hu]
    split
    · next hnone => exact ⟨rfl, rfl, rfl, rfl, fun _ => ⟨rfl, rfl⟩, fun h => absurd hnone h⟩
    · next hsome =>
      rw [enterListening_control]
      exact ⟨rfl, rfl, rfl, rfl, fun h => absurd h hsome, fun _ => rfl⟩
  have hservice : u.service = s.service := by
    rw [← hu]
    split
    · rfl
    · rw [enterListening_service]; rfl
  obtain ⟨himage, hstatus, hwrite, hloaded, hnone, hsome⟩ := hcontrol
  refine ⟨himage, hstatus, hwrite, hloaded, hnone, hsome, fun howed hresponse hrx => ?_, fun howed hbusy => ?_⟩
  · rw [tryOwed_of_free (by rw [hservice]; exact ⟨howed, hwrite, hresponse, hrx⟩)]
    exact ⟨rfl, rfl⟩
  · rw [tryOwed_of_held, hservice]
    rw [hservice]
    rintro ⟨-, -, hresponse, hrx⟩
    exact hbusy.elim (fun h => h hresponse) (fun h => h hrx)

end Sys2Proof.Machine

/-! PROOFS. The setup takes effect in every block, and where each value lies in an image (R2, R20, R27, R31, R117, R175). -/

namespace Sys2Proof.Machine

/-! ### What the health cause monitor leaves of a point's configuration (R2, R17) -/

/-- Two records of one configuration. -/
def PointRecord.sameConfig (r q : PointRecord) : Prop :=
  q.enabled = r.enabled ∧ q.group = r.group ∧ q.sensitivity = r.sensitivity

theorem healthSync_sameConfig (s : State) (p : PointNo) : (s.point p).sameConfig ((healthSync s).point p) := by
  unfold healthSync
  split
  · obtain heq | ⟨st, heq⟩ := fieldEvent_cases 16 (if s.anyCause then .assert else .clear)
      (s.withEngine { s.engine with healthLevel := s.anyCause }) <;> rw [heq]
    · exact ⟨rfl, rfl, rfl⟩
    · rw [point_changePoint]
      split
      · next hp => subst hp; exact ⟨rfl, rfl, rfl⟩
      · exact ⟨rfl, rfl, rfl⟩
  · exact ⟨rfl, rfl, rfl⟩

theorem finish_sameConfig (s : State) (p : PointNo) : (s.point p).sameConfig ((finish s).point p) := by
  rw [point_of_engine (t := finish s) (s := healthSync s) (settle_engine _)]
  exact healthSync_sameConfig s p

/-! ### The blocks once the setup has taken effect (R175) -/

/-- The command that loads an image into a station with a number ends with the setup taken and the causes settled; of the rest only the
Service Port may have moved. -/
theorem exec_loadsSetup {c : Instr} {s : State} {img : Image} (hawake : s.control.inReset = false) (hme : s.me ≠ none)
    (hsupply : s.control.supply = .normal)
    (hc : (c = .setupWindowExpiry ∧ s.control.station = .setupWait ∧ s.control.setupWindow.isRunning = true ∧
        s.control.storeStatus = .valid ∧ s.control.storeImage = img ∧ imageValid img = true) ∨
      (c = .storeWriteComplete ∧ s.control.station = .storing ∧ s.control.storeWrite = some img)) :
    ∃ k y, k.number = s.control.number ∧
      exec c s = .next (finish ((healthSync (setupTakesEffect img (s.drawn.withControl k))).withService y)) := by
  obtain ⟨rfl, hst, hrun, hvalid, rfl, himg⟩ | ⟨rfl, hst, hw⟩ := hc
  · refine ⟨{ s.control with setupWindow := .stopped },
      (healthSync (setupTakesEffect s.control.storeImage (s.drawn.withControl { s.control with setupWindow := .stopped }))).service,
      rfl, (exec_setupWindowExpiry hawake).trans ?_⟩
    rw [setupWindowExpiry_of_loaded (s := s.drawn) hst hrun (examineStore_of_loaded (s := s.drawn) hvalid himg hme),
      enterListening_of_normal (by exact hsupply)]
    rfl
  · obtain ⟨y, hy⟩ : ∃ y, tryOwed (healthSync (setupTakesEffect img (storeDone img s.drawn))) =
        (healthSync (setupTakesEffect img (storeDone img s.drawn))).withService y := by
      unfold tryOwed
      split
      · exact ⟨_, rfl⟩
      · exact ⟨_, rfl⟩
    refine ⟨{ s.control with storeImage := img, storeStatus := .valid, storeWrite := none, loaded := some img }, y, rfl,
      (exec_storeWriteComplete hawake).trans ?_⟩
    have hme' : s.drawn.me ≠ none := hme
    rw [storeWriteComplete_of_storing (s := s.drawn) hst hw, if_neg hme',
      enterListening_of_normal (s := storeDone img s.drawn) hsupply, hy]
    rfl

theorem button_startMonitor (img : Image) (pins : Pins) (k : Button) :
    (startMonitor img pins).buttons.get k = startButton (pins.buttons.get k) := by
  cases k <;> rfl

theorem member_ownInterval {s : State} {n : StationNo} {img : Image} (h : s.me = some n) :
    ((setupTakesEffect img s).member n).interval = imageInterval img := by
  have hentries : (setupTakesEffect img s).roster.entries =
      s.roster.entries.set n.index { s.roster.entries[n.index] with interval := imageInterval img } := by
    change ownIntervalIn s.me img s.roster.entries = _
    rw [h]
    rfl
  rw [State.member, hentries, vector_get_set, if_pos rfl]

/-! ### Where the values lie (R117) -/

theorem intervalMs_imageInterval {img : Image} (h : img[2].toNat ≤ 3) :
    intervalMs (imageInterval img) = [100, 250, 500, 1000].getD img[2].toNat 0 := by
  unfold imageInterval intervalOfCode?
  generalize img[2].toNat = k at h ⊢
  interval_cases k <;> rfl

theorem imageLossWindow_eq (img : Image) : imageLossWindow img = if img[3].toNat = 0 then 3 else 8 := by
  have hzero : img[3] = 0#8 ↔ img[3].toNat = 0 := by
    rw [← BitVec.toNat_inj]
    rfl
  unfold imageLossWindow
  exact if_congr hzero rfl rfl

theorem groupOf_val {b : Byte} (h : b.toNat ≤ 7) : (groupOf b).val = b.toNat := Nat.mod_eq_of_lt (Nat.lt_succ_of_le h)

theorem qualMs_qualOf (b : Byte) : qualMs (qualOf b) = [10, 50, 200, 1000].getD (b.toNat / 8 % 4) 0 := by
  unfold qualOf
  have hlt : b.toNat / 8 % 4 < 4 := Nat.mod_lt _ (by decide)
  generalize b.toNat / 8 % 4 = k at hlt ⊢
  interval_cases k <;> rfl

theorem pointOf?_eq_some {b : Byte} {p : PointNo} (h : b.toNat = p.val) : pointOf? b = some p := by
  unfold pointOf?
  rw [dif_pos (h ▸ p.isLt)]
  exact congrArg some (Fin.ext h)

/-- The source of an output record by its kind (R151). -/
theorem sourceOf_kinds (kind first second : Byte) :
    (kind.toNat % 16 = 0 → sourceOf kind first second = .none) ∧
      (∀ (o : StationNo) (p : PointNo), kind.toNat % 16 = 1 → first.toNat = o.number → second.toNat = p.val →
        sourceOf kind first second = .condition o p) ∧
      (∀ g : GroupNo, kind.toNat % 16 = 2 → first.toNat = g.val → sourceOf kind first second = .group g) ∧
      (kind.toNat % 16 = 3 → sourceOf kind first second = .horn) ∧
      (kind.toNat % 16 = 4 → sourceOf kind first second = .stationLost) ∧
      (kind.toNat % 16 = 5 → sourceOf kind first second = .linkFault) ∧
      (kind.toNat % 16 = 6 → sourceOf kind first second = .overflow) ∧
      (kind.toNat % 16 = 7 → sourceOf kind first second = .health) := by
  unfold sourceOf
  refine ⟨fun h => ?_, fun o p h ho hp => ?_, fun g h hg => ?_, fun h => ?_, fun h => ?_, fun h => ?_, fun h => ?_, fun h => ?_⟩
  all_goals rw [h]
  case refine_2 =>
    rw [(ofNat?_eq_some _ _).mpr ho, pointOf?_eq_some hp]
    rfl
  case refine_3 =>
    refine congrArg Source.group (Fin.ext (b := g) ?_)
    rw [groupOf_val (hg ▸ Nat.le_of_lt_succ g.isLt), hg]
  all_goals rfl

/-- What the station reads once its setup has taken effect, with the read-back settled. -/
theorem setup_reads {img : Image} {u t : State} {y : ServicePort}
    (ht : t = finish ((healthSync (setupTakesEffect img u)).withService y)) :
    t.control = { u.control with station := .listening, loaded := some img } ∧ t.monitor = startMonitor img u.pins ∧
      t.roster = (setupTakesEffect img u).roster ∧
      (∃ horn readback, t.ann = { (setupTakesEffect img u).ann with horn := horn, readback := readback }) ∧
      (∀ n : LineNo, t.point (linePoint n) = configurePoint img (linePoint n) (u.point (linePoint n))) ∧
      (configurePoint img 16 (u.point 16)).sameConfig (t.point 16) := by
  obtain ⟨hsync, -⟩ := healthSync_looked (setupTakesEffect img u)
  obtain ⟨hfinish, -⟩ := finish_looked ((healthSync (setupTakesEffect img u)).withService y)
  rw [← ht] at hfinish
  refine ⟨hfinish.control.trans hsync.control, hfinish.monitor.trans hsync.monitor, hfinish.roster.trans hsync.roster, ?_,
    fun n => ?_, ?_⟩
  · obtain ⟨horn, readback, hann⟩ := hsync.ann
    obtain ⟨horn', readback', hann'⟩ := hfinish.ann
    rw [withService_ann, hann] at hann'
    exact ⟨horn', readback', hann'⟩
  · exact ((hfinish.points _ (linePoint_ne_health n).symm).trans (hsync.points _ (linePoint_ne_health n).symm)).trans
      (point_setupTakesEffect img u _)
  · obtain ⟨he, hg, hs⟩ := healthSync_sameConfig (setupTakesEffect img u) 16
    obtain ⟨he', hg', hs'⟩ := finish_sameConfig ((healthSync (setupTakesEffect img u)).withService y) 16
    rw [ht, ← point_setupTakesEffect]
    exact ⟨he'.trans he, hg'.trans hg, hs'.trans hs⟩

/-- Settles O8: the load is one act in every block, and each field of an image is read off its bytes. -/
theorem setupTakesEffectInEveryBlock : Obligations.SetupTakesEffectInEveryBlock := by
  refine ⟨fun c s img hawake hme hsupply hc => ?_, fun img => ⟨intervalMs_imageInterval, fun _ => imageLossWindow_eq img, rfl,
    groupOf_val, fun g => rfl, fun n => ⟨rfl, rfl, rfl, qualMs_qualOf _, groupOf_val⟩,
    fun k => ⟨rfl, ?_⟩⟩⟩
  case refine_2 => exact sourceOf_kinds img[46 + 3 * k.val] img[47 + 3 * k.val] img[48 + 3 * k.val]
  obtain ⟨k, y, hk, hexec⟩ := exec_loadsSetup hawake hme hsupply hc
  refine ⟨_, hexec, ?_⟩
  have hme' : (s.drawn.withControl k).me = s.me := congrArg (fun n : BitVec 6 => StationNo.ofNat? n.toNat) hk
  obtain ⟨hcontrol, hmonitor, hroster, ⟨horn, readback, hann⟩, hpoint, he, hg, hs⟩ := setup_reads (img := img)
    (u := s.drawn.withControl k) (y := y) rfl
  refine ⟨by rw [hcontrol], by rw [hcontrol], fun n => ⟨?_, ?_, ?_, ?_, ?_⟩, fun b => ?_, he, hg, hs, fun g => ?_, ?_, ?_, ?_,
    fun n hn => ?_⟩
  · rw [hpoint, configurePoint_line]
  · rw [hpoint, configurePoint_line]
  · rw [hpoint, configurePoint_line]
  · rw [State.input, hmonitor]
    exact Vector.getElem_ofFn _
  · rw [hann]
    exact Vector.getElem_ofFn _
  · rw [State.button, hmonitor, button_startMonitor]
    rfl
  · rw [State.groupOptions, hcontrol]
  · rw [hann]
    rfl
  · rw [hroster]
    rfl
  · rw [hroster]
    rfl
  · rw [State.member, hroster]
    exact member_ownInterval (hme'.trans hn)

end Sys2Proof.Machine

/-! PROOFS. The windows of membership and the repair timer (R53, R97, R109, R129 to R135, R142, R145, R146, R178, R181). -/

namespace Sys2Proof.Machine

/-! ### The end of a command in a state that marks nothing -/

theorem healthSync_link_of_no_marks {s : State} (h : s.marks = false) : (healthSync s).link = s.link := by
  obtain ⟨x, heq | heq⟩ := healthSync_cases s <;> rw [heq]
  · rfl
  · have hmarks : (s.withEngine x).marks = false := h
    rw [handOver, if_neg (by rw [hmarks]; decide), localDeliver_link]
    rfl

theorem finish_link_of_no_marks {s : State} (h : s.marks = false) : (finish s).link = s.link := by
  rw [finish, settle_link, healthSync_link_of_no_marks h]

theorem marks_of_silent {s : State} (h : s.control.station.silent = true) : s.marks = false := by
  unfold State.marks
  cases hst : s.control.station <;> simp_all [StationState.silent]

theorem finish_roll (s : State) : (finish s).link.lanes.roll = s.link.lanes.roll := by
  obtain ⟨marks, hlink⟩ := healthSync_link s
  rw [finish, settle_link, hlink]

/-! ### Entries into JOINING and into a silent state -/

/-- At the end of a command that enters a silent state the lanes are empty. -/
theorem finish_enterSilent_link {o : Orders} {st : StationState} {s : State} (hst : st.silent = true) :
    (finish (enterSilent o st s)).link = (enterSilent o st s).link :=
  finish_link_of_no_marks (marks_of_silent (by rw [enterSilent_station]; exact hst))

theorem joinCore_roster (c : JoinCause) (s : State) :
    (joinCore c s).roster = { (leaveState s).roster with awaited := [], joinWindow := .stopped, presence := .stopped } := rfl

theorem joinCore_link (c : JoinCause) (s : State) :
    (joinCore c s).link =
      { s.link with lanesOpen := false, lanes := { s.link.lanes with roll := some (freshRoll .join), leaveOwed := false } } := by
  rw [joinCore]
  simp only [withLink_link, withRoster_link, withControl_link, leaveState_link]

theorem leaveState_of_joining {s : State} (h : s.control.station = .joining) :
    leaveState s = s.withRoster { s.roster with awaited := [], joinWindow := .stopped } := by
  unfold leaveState
  rw [h]

theorem leaveState_of_isolated {s : State} (h : s.control.station = .isolated) :
    leaveState s = s.withControl { s.control with isolationHold := .stopped } := by
  unfold leaveState
  rw [h]

theorem leaveState_of_running {s : State} (h : s.control.station = .running) : leaveState s = s.withRepair repairNone := by
  unfold leaveState
  rw [h]

/-- An entry into JOINING at a NORMAL supply. -/
theorem enterJoining_of_normal {o : Orders} {c : JoinCause} {s : State} (h : s.control.supply = .normal) :
    enterJoining o c s = joinCore c s := by
  unfold enterJoining
  dsimp only
  rw [if_neg (by rw [joinCore_control]; simp [h])]

/-- An entry into JOINING at a LOW supply (R178). -/
theorem enterJoining_of_low {o : Orders} {c : JoinCause} {s : State} (h : s.control.supply = .low) :
    enterJoining o c s = enterSilent o .departed (joinCore c s) := by
  unfold enterJoining
  dsimp only
  rw [if_pos (by rw [joinCore_control]; simp [h])]

/-- What Station Control reads after an entry into JOINING (R178). -/
theorem enterJoining_control (o : Orders) (c : JoinCause) (s : State) :
    (enterJoining o c s).control =
      { (leaveState s).control with
        station := if s.control.supply = .low then .departed else .joining, joinCause := some c } := by
  cases h : s.control.supply with
  | normal =>
    rw [enterJoining_of_normal h, joinCore_control]
    simp
  | low =>
    rw [enterJoining_of_low h, enterSilent_control, leaveState_of_joining rfl, withRoster_control, joinCore_control]
    simp

theorem enterSilent_listenWindow {o : Orders} {s : State} (h : s.control.station = .joining) :
    (enterSilent o .departed s).roster.listenWindow = s.roster.listenWindow := by
  rw [enterSilent, emptyLanes_roster, causeMoment_roster, leaveState_of_joining h]
  rfl

/-- What a station reads of its link and its roster after an entry into JOINING and the end of the command. -/
theorem finish_enterJoining_of_normal {o : Orders} {c : JoinCause} {s : State} (h : s.control.supply = .normal) :
    (finish (enterJoining o c s)).link.lanes.roll = some (freshRoll .join) ∧
      (finish (enterJoining o c s)).link.lanesOpen = false ∧
      (finish (enterJoining o c s)).roster = (joinCore c s).roster := by
  rw [finish_roll, finish_lanesOpen, finish_roster, enterJoining_of_normal h, joinCore_link]
  exact ⟨rfl, rfl, rfl⟩

theorem finish_enterJoining_of_low {o : Orders} {c : JoinCause} {s : State} (h : s.control.supply = .low) :
    (finish (enterJoining o c s)).link.lanes = .empty := by
  rw [enterJoining_of_low h, finish_enterSilent_link rfl]
  exact (enterSilent_link ..).1

/-- Settles O20: both expiries are entries into JOINING. -/
theorem listenAndHoldExpiriesJoin : Obligations.ListenAndHoldExpiriesJoin := by
  refine ⟨fun s hactive hst hrun => ⟨_, whenActive_next hactive, ?_⟩, fun s hactive hst hrun => ⟨_, whenActive_next hactive, ?_⟩⟩
  · rw [listenExpiry, if_pos ⟨hst, hrun⟩, finish_control, enterJoining_control]
    refine ⟨?_, rfl, fun hsupply => ?_, fun hsupply => ?_⟩
    · cases hsupply : s.drawn.control.supply with
      | normal =>
        rw [(finish_enterJoining_of_normal hsupply).2.2, joinCore_roster, leaveState_of_listening (s := s.drawn) hst]
        rfl
      | low =>
        rw [finish_roster, enterJoining_of_low hsupply, enterSilent_listenWindow (joinCore_control _ _ ▸ rfl), joinCore_roster,
          leaveState_of_listening (s := s.drawn) hst]
        rfl
    · obtain ⟨hroll, hopen, hroster⟩ := finish_enterJoining_of_normal (o := Config.orders s.draws)
        (c := joinCauseOfReset s.control.resetCause) (s := s.drawn) hsupply
      refine ⟨?_, hroll, hopen, ?_⟩
      · simp [hsupply]
      · rw [show (joinCauseOfReset s.drawn.control.resetCause) = joinCauseOfReset s.control.resetCause from rfl, hroster]
        exact ⟨rfl, rfl, rfl⟩
    · refine ⟨?_, finish_enterJoining_of_low (s := s.drawn) hsupply⟩
      simp [hsupply]
  · rw [holdExpiry, if_pos ⟨hst, hrun⟩, finish_control, enterJoining_control, leaveState_of_isolated (s := s.drawn) hst]
    refine ⟨rfl, rfl, rfl, fun hsupply => ?_, fun hsupply => ?_⟩
    · obtain ⟨hroll, hopen, _⟩ := finish_enterJoining_of_normal (o := Config.orders s.draws) (c := .isolation) (s := s.drawn) hsupply
      refine ⟨?_, hroll, hopen⟩
      simp [hsupply]
    · refine ⟨?_, finish_enterJoining_of_low (s := s.drawn) hsupply⟩
      simp [hsupply]

/-! ### The join window and the presence timer (R97, R133, R135) -/

/-- Settles O21: the entry into RUNNING, which marks, and the two cases of the ROLL slot. -/
theorem joinWindowRunsAndPresenceRecurs : Obligations.JoinWindowRunsAndPresenceRecurs := by
  refine ⟨fun s hactive hst hrun => ⟨_, whenActive_next hactive, ?_⟩, fun s hactive hrun => ⟨_, whenActive_next hactive, ?_⟩⟩
  · have hmarks : (enterRunning s).marks = true := by
      rw [State.marks, enterRunning_station]
    have hcontrol : (enterRunning s).control = { s.control with station := .running } := by
      rw [enterRunning, leaveState_of_joining hst]
      rfl
    rw [joinWindowExpiry, if_pos ⟨hst, hrun⟩, finish_table_of_marks hmarks, finish_roster, enterRunning_roster hst]
    exact ⟨(finish_control _).trans hcontrol, rfl, by simp, by simp, by simp, by simp⟩
  · rw [presenceExpiry, if_pos hrun]
    cases hroll : s.link.lanes.roll with
    | none =>
      simp only [withRoster_link, hroll]
      refine ⟨rfl, rfl, ?_⟩
      obtain ⟨_, _, _, _, _, link, _, _, _, _, _, _⟩ := s
      obtain ⟨lanes, _, _, _, _, _, _, _, _, _, _, _, _, _⟩ := link
      rfl
    | some f =>
      simp only [withRoster_link, hroll]
      exact ⟨rfl, by rw [← hroll], rfl⟩

/-! ### The repair timer (R142, R145, R146) -/

theorem appendOwner_holds {o : StationNo} {lane w : List RepairEntry} (h : appendOwner o lane = some w) :
    ∃ e ∈ w, ∃ owners, e.work = .request owners ∧ o ∈ owners := by
  induction lane generalizing w with
  | nil => cases h
  | cons e rest ih =>
    unfold appendOwner at h
    split at h
    · next owners hw =>
      cases h
      refine ⟨_, List.mem_cons_self, ?_⟩
      split
      · next hheld => exact ⟨owners, hw, by simpa using hheld⟩
      · exact ⟨owners ++ [o], rfl, by simp⟩
    · obtain ⟨w', hw', rfl⟩ := Option.map_eq_some_iff.mp h
      obtain ⟨e', he', howners⟩ := ih hw'
      exact ⟨e', List.mem_cons_of_mem _ he', howners⟩

/-- Where no request takes an owner, there is none. -/
theorem isDump_of_appendOwner_none {o : StationNo} {lane : List RepairEntry} (h : appendOwner o lane = none) :
    ∀ e ∈ lane, e.isDump = true := by
  induction lane with
  | nil => simp
  | cons e rest ih =>
    unfold appendOwner at h
    split at h
    · cases h
    · next again hw =>
      refine List.forall_mem_cons.mpr ⟨by simp [RepairEntry.isDump, hw], ih ?_⟩
      simpa using h

/-- After a request for an owner some request lists it (R96). -/
theorem requestOwnerIn_holds (onAir : Bool) (o : StationNo) (lane : List RepairEntry) :
    ∃ e ∈ requestOwnerIn onAir o lane, ∃ owners, e.work = .request owners ∧ o ∈ owners := by
  unfold requestOwnerIn
  dsimp only
  split
  · next w hw =>
    obtain ⟨e, he, howners⟩ := appendOwner_holds hw
    exact ⟨e, List.mem_append_right _ he, howners⟩
  · next hnone =>
    have hfew : (lane.filter (fun e => !e.isDump)).length < 2 := by
      have hdumps := isDump_of_appendOwner_none hnone
      have hrest : ((if onAir then lane.drop 1 else lane).filter (fun e => !e.isDump)) = [] :=
        List.filter_eq_nil_iff.mpr fun e he => by simp [hdumps e he]
      cases onAir with
      | false =>
        simp only [Bool.false_eq_true, if_false] at hrest
        simp [hrest]
      | true =>
        cases lane with
        | nil => simp
        | cons e rest =>
          simp only [if_true, List.drop_one, List.tail_cons] at hrest
          rw [List.filter_cons, hrest]
          split <;> simp
    rw [if_pos hfew]
    exact ⟨_, List.mem_append_right _ List.mem_cons_self, [o], rfl, by simp⟩

theorem requestOwner_holds {o : StationNo} {s : State} (h : s.lanesTake = true) :
    ∃ e ∈ (requestOwner o s).link.lanes.repair, ∃ owners, e.work = .request owners ∧ o ∈ owners := by
  rw [requestOwner, if_pos h]
  exact requestOwnerIn_holds _ o _

theorem repairOf_of_repair {s t : State} (h : t.repair = s.repair) (n : StationNo) : t.repairOf n = s.repairOf n := by
  rw [State.repairOf, State.repairOf, h]

theorem lanesTake_of_running {s : State} (ha : s.active = true) (hst : s.control.station = .running) : s.lanesTake = true := by
  rw [State.lanesTake, ha, hst]
  rfl

/-- Settles O23: the request made again, and the failure at the third expiry. -/
theorem repairExpiryRequestsOrFails : Obligations.RepairExpiryRequestsOrFails := by
  intro n s hactive hst hrun
  refine ⟨_, whenActive_next hactive, fun hfew => ?_, fun hmany => ?_, fun m hm => ?_, by simp, by simp, by simp, by simp, by simp⟩
  · have hexpiry : repairExpiry n s =
        requestOwner n (s.setRepair n (requestedRecord ((s.repairOf n).attempts + 1) (s.member n).interval)) := by
      rw [repairExpiry]
      rw [if_pos ⟨hst, hrun⟩, if_pos hfew]
    rw [hexpiry]
    refine ⟨?_, fun hrunning _ => ?_⟩
    · rw [repairOf_of_repair (finish_repair _), repairOf_of_repair (requestOwner_repair ..), repairOf_setRepair, if_pos rfl]
      rfl
    · rw [finish_repairLane]
      exact requestOwner_holds (lanesTake_of_running (by exact hactive) hrunning)
  · have hexpiry : repairExpiry n s = s.setRepair n { state := .failed, attempts := 3, timer := .stopped } := by
      rw [repairExpiry]
      rw [if_pos ⟨hst, hrun⟩, if_neg (Nat.not_lt.mpr hmany)]
    have hrecord : (finish (repairExpiry n s)).repairOf n = { state := .failed, attempts := 3, timer := .stopped } := by
      rw [repairOf_of_repair (finish_repair _), hexpiry, repairOf_setRepair, if_pos rfl]
    exact ⟨hrecord, (repairFailed_iff _).mpr ⟨n, by rw [hrecord]⟩⟩
  · rw [repairOf_of_repair (finish_repair _), repairExpiry]
    split
    · split
      · rw [repairOf_of_repair (requestOwner_repair ..), repairOf_setRepair, if_neg hm]
      · rw [repairOf_setRepair, if_neg hm]
    · rfl

end Sys2Proof.Machine

/-! PROOFS. The emptying of the lanes (R14, R69, R99), alone and within the commands that enter a silent state. -/

namespace Sys2Proof.Machine

/-! ### Marks locally delivered in lane order (R14) -/

theorem contents_congr {s t : State} (hc : t.control = s.control) (he : t.engine = s.engine) (p : PointNo) :
    t.contents p = s.contents p := by
  simp only [State.contents, State.point, State.groupOptions, hc, he]

/-- The table once each mark's point is delivered from the contents given. -/
def deliverMarks (me : Option StationNo) (n : StationNo) (contents : PointNo → PointReport) (marks : List ReportMark) (t : AlarmTable) :
    AlarmTable := marks.foldl (fun t m => (applyContents me false n (contents m.point) ⟨t, []⟩).table) t

theorem localFold_table {s : State} {n : StationNo} (hme : s.me = some n) (marks : List ReportMark) {u : State}
    (hc : u.control = s.control) (he : u.engine = s.engine) :
    (marks.foldl (fun t m => localDeliver m.point t) u).table = deliverMarks s.me n s.contents marks u.table := by
  induction marks generalizing u with
  | nil => rfl
  | cons m rest ih =>
    have hme' : u.me = some n := (me_of_control hc).trans hme
    rw [List.foldl_cons, ih ((localDeliver_control ..).trans hc) ((localDeliver_engine ..).trans he), localDeliver_of_me hme',
      takeChange_table, contents_congr hc he, me_of_control hc]
    rfl

/-- The entry that a point's contents leave: none in NORMAL, and else one at their state and revision (R37 to R39). -/
def entryShows (r : PointReport) (e : Option Entry) : Prop :=
  (entryState? r.state = none → e = none) ∧
    ∀ st, entryState? r.state = some st → ∃ x, e = some x ∧ x.state = st ∧ x.revision = r.revision

theorem find_deliverMarks_of_unmarked {me : Option StationNo} {n : StationNo} {contents : PointNo → PointReport}
    (hpoint : ∀ p, (contents p).point = p) {marks : List ReportMark} {c : Condition}
    (hc : ∀ m ∈ marks, c ≠ ⟨n, m.point⟩) (t : AlarmTable) : (deliverMarks me n contents marks t).find c = t.find c := by
  induction marks generalizing t with
  | nil => rfl
  | cons m rest ih =>
    obtain ⟨hm, hrest⟩ := List.forall_mem_cons.mp hc
    exact (ih hrest _).trans (find_applyContents_of_ne ⟨t, []⟩ (by rw [hpoint]; exact hm))

theorem find_deliverMarks_of_marked {n : StationNo} {contents : PointNo → PointReport} (hpoint : ∀ p, (contents p).point = p)
    {marks : List ReportMark} {p : PointNo} (hp : ∃ m ∈ marks, m.point = p) (t : AlarmTable) :
    entryShows (contents p) ((deliverMarks (some n) n contents marks t).find ⟨n, p⟩) := by
  induction marks generalizing t with
  | nil => simp at hp
  | cons m rest ih =>
    by_cases hrest : ∃ m' ∈ rest, m'.point = p
    · exact ih hrest _
    · have hm : m.point = p := by
        obtain ⟨m', hm', hp'⟩ := hp
        obtain rfl | hin := List.mem_cons.mp hm'
        · exact hp'
        · exact absurd ⟨m', hin, hp'⟩ hrest
      have hfind : (deliverMarks (some n) n contents (m :: rest) t).find ⟨n, p⟩ =
          (applyContents (some n) false n (contents p) ⟨t, []⟩).table.find ⟨n, (contents p).point⟩ := by
        rw [hpoint, ← hm]
        refine find_deliverMarks_of_unmarked hpoint (fun m' hm' h => hrest ⟨m', hm', ?_⟩) _
        rw [← hm]
        exact (congrArg Condition.point h).symm
      rw [hfind]
      exact ⟨find_applyContents_normal _, fun st hst => find_applyContents_some hst (.inl rfl)⟩

/-! ### The emptying (R99) -/

/-- What the emptying leaves of the table (R14). -/
theorem emptyLanes_table {s : State} {n : StationNo} (hme : s.me = some n) :
    (emptyLanes s).table = deliverMarks s.me n s.contents s.link.lanes.report s.table :=
  localFold_table (s := s) hme s.link.lanes.report (u := discardLanes s) rfl rfl

theorem emptyLanes_empties (s : State) : s.emptiesLanes s.link.lanes (emptyLanes s) := by
  refine ⟨by rw [emptyLanes_link], by rw [emptyLanes_link], emptyLanes_operatorDropped s, fun n hme => ?_⟩
  rw [emptyLanes_table hme]
  have hpoint (p : PointNo) : (s.contents p).point = p := rfl
  refine ⟨fun p _ => ⟨fun hmarked => ?_, fun hunmarked => ?_⟩, fun c hc => ?_⟩
  · rw [hme]
    exact find_deliverMarks_of_marked hpoint hmarked s.table
  · refine find_deliverMarks_of_unmarked hpoint (fun m hm h => hunmarked m hm ?_) _
    exact (congrArg Condition.point h).symm
  · refine find_deliverMarks_of_unmarked hpoint (fun m _ h => hc ?_) _
    exact congrArg Condition.owner h

/-! ### The emptying between looks of the monitor -/

theorem mem_marks_of_filter {l l' : List ReportMark}
    (h : l'.filter (fun m => decide (m.point ≠ 16)) = l.filter (fun m => decide (m.point ≠ 16))) {p : PointNo} (hp : p ≠ 16) :
    (∃ m ∈ l', m.point = p) ↔ ∃ m ∈ l, m.point = p := by
  have hin (k : List ReportMark) : (∃ m ∈ k, m.point = p) ↔ ∃ m ∈ k.filter (fun m => decide (m.point ≠ 16)), m.point = p := by
    simp only [List.mem_filter, decide_eq_true_eq]
    exact ⟨fun ⟨m, hm, heq⟩ => ⟨m, ⟨hm, heq ▸ hp⟩, heq⟩, fun ⟨m, hm, heq⟩ => ⟨m, hm.1, heq⟩⟩
  rw [hin l', hin l, h]

/-- The entries that a look leaves as they are. -/
theorem State.Looked.find {s t : State} (h : s.Looked t) {n : StationNo} (hme : s.me = some n) :
    (∀ p : PointNo, p ≠ 16 → t.table.find ⟨n, p⟩ = s.table.find ⟨n, p⟩) ∧
      ∀ c : Condition, c.owner ≠ n → t.table.find c = s.table.find c := by
  refine ⟨fun p hp => find_of_agreesOn h.table ?_, fun c hc => find_of_agreesOn h.table ?_⟩
  · rw [State.apartFromHealth, decide_eq_true_eq]
    exact .inr hp
  · rw [State.apartFromHealth, decide_eq_true_eq, hme]
    exact .inl fun heq => hc (Option.some.inj heq).symm

/-- A look before an emptying. -/
theorem State.Looked.empties {s u t : State} (h : s.Looked u) (he : u.emptiesLanes u.link.lanes t) :
    s.emptiesLanes s.link.lanes t := by
  obtain ⟨hsending, hrun, hdropped, htable⟩ := he
  obtain ⟨marks, hlink, hmarks⟩ := h.link
  obtain ⟨horn, readback, hann⟩ := h.ann
  refine ⟨hsending, hrun, ?_, fun n hme => ?_⟩
  · rw [hlink, hann] at hdropped
    exact hdropped
  · obtain ⟨hown, hother⟩ := htable n (h.me.trans hme)
    obtain ⟨hownFind, hotherFind⟩ := h.find hme
    rw [hlink] at hown
    refine ⟨fun p hp => ?_, fun c hc => (hother c hc).trans (hotherFind c hc)⟩
    obtain ⟨hmarked, hunmarked⟩ := hown p hp
    rw [h.points p hp] at hmarked
    refine ⟨fun hm => hmarked ((mem_marks_of_filter hmarks hp).mpr hm), fun hm => ?_⟩
    refine (hunmarked fun m' hm' heq => ?_).trans (hownFind p hp)
    obtain ⟨m, hin, hpoint⟩ := (mem_marks_of_filter hmarks hp).mp ⟨m', hm', heq⟩
    exact hm m hin hpoint

/-- An emptying of lanes that are empty, after one of the lanes given. -/
theorem State.emptiesLanes.trans_empty {s u t : State} {l : Lanes} (h : s.emptiesLanes l u) (hme : u.me = s.me)
    (h' : u.emptiesLanes .empty t) : s.emptiesLanes l t := by
  obtain ⟨_, _, hdropped, htable⟩ := h
  obtain ⟨hsending, hrun, hdropped', htable'⟩ := h'
  refine ⟨hsending, hrun, hdropped'.trans hdropped, fun n hn => ?_⟩
  obtain ⟨hown, hother⟩ := htable n hn
  obtain ⟨hown', hother'⟩ := htable' n (hme.trans hn)
  refine ⟨fun p hp => ?_, fun c hc => (hother' c hc).trans (hother c hc)⟩
  have hsame : t.table.find ⟨n, p⟩ = u.table.find ⟨n, p⟩ := (hown' p hp).2 (by simp [Lanes.empty])
  rw [hsame]
  exact hown p hp

/-- A look after an emptying. -/
theorem State.emptiesLanes.trans_looked {s u t : State} {l : Lanes} (h : s.emptiesLanes l u) (hme : u.me = s.me)
    (h' : u.Looked t) : s.emptiesLanes l t := by
  have ⟨hsending, hrun, _⟩ := h
  obtain ⟨marks, hlink, _⟩ := h'.link
  obtain ⟨horn, readback, hann⟩ := h'.ann
  refine h.trans_empty hme ⟨by rw [hlink]; exact hsending, by rw [hlink]; exact hrun, by rw [hann]; rfl, fun n hn => ?_⟩
  obtain ⟨hown, hother⟩ := h'.find hn
  exact ⟨fun p hp => ⟨fun hm => by simp [Lanes.empty] at hm, fun _ => hown p hp⟩, hother⟩

/-- States that agree in what an emptying reads. -/
theorem emptiesLanes_congr {s s' t : State} {l : Lanes} (hme : s'.me = s.me) (hpoints : ∀ p : PointNo, p ≠ 16 → s'.point p = s.point p)
    (htable : s'.table = s.table) (hdropped : s'.ann.operatorDropped = s.ann.operatorDropped) (h : s'.emptiesLanes l t) :
    s.emptiesLanes l t := by
  obtain ⟨hsending, hrun, hcount, hfinds⟩ := h
  refine ⟨hsending, hrun, hdropped ▸ hcount, fun n hn => ?_⟩
  obtain ⟨hown, hother⟩ := hfinds n (hme.trans hn)
  rw [htable] at hown hother
  refine ⟨fun p hp => ?_, hother⟩
  have := hown p hp
  rwa [hpoints p hp] at this

/-- The entry into a silent state empties the lanes (R99). -/
theorem enterSilent_empties (o : Orders) (st : StationState) (s : State) : s.emptiesLanes s.link.lanes (enterSilent o st s) := by
  obtain ⟨hlooked, _⟩ := causeMoment_looked o (stopPresence ((leaveState s).withStation st))
  have hempties := hlooked.empties (emptyLanes_empties _)
  have hlink : (stopPresence ((leaveState s).withStation st)).link = s.link := by simp [stopPresence]
  rw [hlink] at hempties
  refine emptiesLanes_congr ?_ (fun p _ => point_of_engine (by simp [stopPresence]) p) (by simp [stopPresence]) (by simp [stopPresence])
    hempties
  simp [stopPresence, State.me]

end Sys2Proof.Machine

/-! PROOFS. The eighth failed attempt, and the sixteenth undelivered frame (R14, R69, R89, R90, R94 to R99, R178, R179, R181). -/

namespace Sys2Proof.Machine

/-! ### An abandoned frame (R89, R90) -/

/-- The Link Controller once its head is abandoned. -/
def abandonedLink (c : Instr) (lane : Lane) (l : LinkController) : LinkController :=
  { countFailure c l with
    sending := none, lanes := dropUndelivered lane (failHead lane l.lanes), undelivered := l.undelivered.bump, degraded := true,
    undeliveredRun := l.undeliveredRun + 1 }

theorem any_failHead_roll (p : RollKind → Bool) (l : Lanes) :
    (failHead .roll l).roll.any (fun f => p f.kind) = l.roll.any (fun f => p f.kind) := by
  cases h : l.roll <;> simp [failHead, h]

theorem leaveEnds_headFails (c : Instr) (lane : Lane) (s : State) :
    (headFails lane (s.drawn.withLink (countFailure c s.link))).leaveEnds lane = s.leaveEnds lane := by
  rw [headFails_counted, State.leaveEnds, State.leaveEnds, withLink_link, withLink_control, drawn_control]
  cases lane with
  | roll => rw [any_failHead_roll (fun k => k == .leave)]
  | report => rfl
  | operator => rfl
  | repair => rfl

/-- The eighth failed attempt: what follows the abandoned frame depends on the count, and then on whose frame it was. -/
theorem exec_abandons {c : Instr} {s : State} {a : Attempt} (hc : c = .collided ∨ c = .objected) (hactive : s.active = true)
    (hsending : s.link.sending = some a) (howed : ¬(a.lane = .roll ∧ s.link.lanes.leaveOwed = true))
    (hmany : 7 ≤ headFailed a.lane s.link.lanes) :
    exec c s = .next (finish
      (if 15 ≤ s.link.undeliveredRun then
        enterIsolated (Config.orders s.draws) (causeMoment (Config.orders s.draws) (s.drawn.withLink (abandonedLink c a.lane s.link)))
      else if s.leaveEnds a.lane = true then
        enterDeparted (Config.orders s.draws) (causeMoment (Config.orders s.draws) (s.drawn.withLink (abandonedLink c a.lane s.link)))
      else causeMoment (Config.orders s.draws) (s.drawn.withLink (abandonedLink c a.lane s.link)))) := by
  rw [exec_failed hc hactive hsending, failAttempt_last (by simpa using howed) (by simpa using hmany), undeliver]
  dsimp only
  rw [leaveEnds_headFails]
  have hlimit : isolationLimit ≤ (headFails a.lane (s.drawn.withLink (countFailure c s.link))).link.undeliveredRun + 1 ↔
      15 ≤ s.link.undeliveredRun := Nat.add_le_add_iff_right (n := 1) (m := 15)
  simp only [hlimit]
  rfl

/-! ### Whether a cause has changed (R17) -/

theorem healthSync_of_degraded {s : State} (hd : s.link.degraded = true) (hl : s.engine.healthLevel = true) : healthSync s = s :=
  healthSync_of_eq s (by rw [State.anyCause, hd, hl]; simp)

theorem causeMoment_of_degraded {o : Orders} {s : State} (hd : s.link.degraded = true) (hl : s.engine.healthLevel = true) :
    causeMoment o s = s := by
  unfold causeMoment
  split
  · exact healthSync_of_degraded hd hl
  · rfl

theorem anyCause_of_degraded {s : State} (hd : s.link.degraded = true) : s.anyCause = true := by
  rw [State.anyCause, hd]
  simp

theorem finish_of_degraded {s : State} (hd : s.link.degraded = true) (hl : s.engine.healthLevel = true) : finish s = settle s := by
  rw [finish, healthSync_of_degraded hd hl]

/-! ### The lanes without an abandoned head (R94 to R97) -/

theorem dropUndelivered_failHead (l : Lanes) :
    (∀ m rest, l.report = m :: rest →
      dropUndelivered .report (failHead .report l) =
        { l with
          report := if m.again then rest ++ [{ point := m.point, again := false, attempt := 0, failed := 0 }] else rest }) ∧
    (∀ e rest, l.operator = e :: rest → dropUndelivered .operator (failHead .operator l) = { l with operator := rest }) ∧
    (∀ e rest, l.repair = e :: rest →
      dropUndelivered .repair (failHead .repair l) =
        { l with
          repair :=
            if e.work = .dump true then rest ++ [{ work := .dump false, attempt := 0, failed := 0 }] else rest }) ∧
    (∀ f, l.roll = some f →
      dropUndelivered .roll (failHead .roll l) =
        { l with roll := if f.kind = .join then some { kind := .join, attempt := 0, failed := 0 } else none }) := by
  refine ⟨fun m rest h => ?_, fun e rest h => ?_, fun e rest h => ?_, fun f h => ?_⟩
  · simp [dropUndelivered, failHead, onHead, dropReport, h, freshMark]
  · simp [dropUndelivered, failHead, onHead, h]
  · have hdrop : dropRepair ({ e with failed := e.failed + 1 } :: rest) =
        if e.work = .dump true then rest ++ [freshRepair (.dump false)] else rest := by
      simp only [dropRepair]
      split
      · next hw => rw [if_pos hw]
      · next hw => rw [if_neg hw]
    rw [dropUndelivered, failHead, h, onHead, hdrop]
    rfl
  · rw [dropUndelivered, failHead, rollUndelivered, h]
    dsimp only [Option.map_some]
    split <;> rfl

/-- The abandoned ROLL frame leaves the marks and the OPERATOR entries. -/
theorem dropUndelivered_roll (l : Lanes) :
    (dropUndelivered .roll (failHead .roll l)).report = l.report ∧ (dropUndelivered .roll (failHead .roll l)).operator = l.operator := by
  unfold dropUndelivered failHead rollUndelivered
  dsimp only
  split
  · split <;> exact ⟨rfl, rfl⟩
  · exact ⟨rfl, rfl⟩

/-! ### The entry into a silent state, field by field (R99, R135) -/

/-- The Link Controller keeps its counters at the entry into a silent state. -/
theorem enterSilent_link_eq (o : Orders) (st : StationState) (s : State) :
    (enterSilent o st s).link = { s.link with lanes := .empty, sending := none, undeliveredRun := 0 } := by
  obtain ⟨hlooked, _⟩ := causeMoment_looked o (stopPresence ((leaveState s).withStation st))
  obtain ⟨marks, hlink, _⟩ := hlooked.link
  rw [enterSilent, emptyLanes_link, hlink]
  simp [stopPresence]

theorem enterSilent_presence (o : Orders) (st : StationState) (s : State) : (enterSilent o st s).roster.presence = .stopped := by
  rw [enterSilent, emptyLanes_roster, causeMoment_roster]
  rfl

theorem enterSilent_point (o : Orders) (st : StationState) (s : State) {p : PointNo} (hp : p ≠ 16) :
    (enterSilent o st s).point p = s.point p := by
  obtain ⟨hlooked, _⟩ := causeMoment_looked o (stopPresence ((leaveState s).withStation st))
  rw [enterSilent, point_of_engine (emptyLanes_engine _), hlooked.points p hp]
  exact point_of_engine (by simp [stopPresence]) p

theorem emptiesLanes_of_lanes {s t : State} {l l' : Lanes} (hr : l'.report = l.report) (ho : l'.operator = l.operator)
    (h : s.emptiesLanes l' t) : s.emptiesLanes l t := by
  unfold State.emptiesLanes at h ⊢
  rw [hr, ho] at h
  exact h

/-- At a LOW supply DEPARTED is entered and kept. -/
theorem enterDeparted_of_low {o : Orders} {s : State} (h : s.control.supply = .low) : enterDeparted o s = enterSilent o .departed s := by
  unfold enterDeparted
  dsimp only
  rw [if_neg (by rw [enterSilent_control]; simp [h])]

/-- At a NORMAL supply the station goes on to JOINING (R178). -/
theorem enterDeparted_of_normal {o : Orders} {s : State} (h : s.control.supply = .normal) :
    enterDeparted o s = joinCore .supplyRecovered (enterSilent o .departed s) := by
  unfold enterDeparted
  dsimp only
  rw [if_pos (by rw [enterSilent_control]; simp [h])]

theorem joinCore_me (c : JoinCause) (s : State) : (joinCore c s).me = s.me := by
  rw [State.me, joinCore_control]
  simp [State.me]

theorem marks_joinCore (c : JoinCause) (s : State) : (joinCore c s).marks = false := rfl

/-- What a command that ends in DEPARTED leaves (R14, R69, R99, R178, R179). -/
theorem finish_enterDeparted {o : Orders} {s : State} :
    s.emptiesLanes s.link.lanes (finish (enterDeparted o s)) ∧
      (finish (enterDeparted o s)).link.undelivered = s.link.undelivered ∧
      (finish (enterDeparted o s)).link.degraded = s.link.degraded ∧
      (s.control.supply = .low →
        (finish (enterDeparted o s)).control.station = .departed ∧ (finish (enterDeparted o s)).link.lanes = .empty) ∧
      (s.control.supply = .normal →
        (finish (enterDeparted o s)).control.station = .joining ∧
          (finish (enterDeparted o s)).control.joinCause = some .supplyRecovered ∧
          (finish (enterDeparted o s)).link.lanes = { Lanes.empty with roll := some (freshRoll .join) }) := by
  have hempties := enterSilent_empties o .departed s
  cases hsupply : s.control.supply with
  | low =>
    have hlink : (finish (enterDeparted o s)).link = { s.link with lanes := .empty, sending := none, undeliveredRun := 0 } := by
      rw [enterDeparted_of_low hsupply, finish_enterSilent_link rfl, enterSilent_link_eq]
    rw [hlink]
    refine ⟨?_, rfl, rfl, fun _ => ⟨?_, rfl⟩, nofun⟩
    · rw [enterDeparted_of_low hsupply]
      exact hempties.trans_looked (enterSilent_me ..) (finish_looked _).1
    · rw [finish_control, enterDeparted_of_low hsupply, enterSilent_station]
  | normal =>
    have hlink : (finish (enterDeparted o s)).link =
        { s.link with
          lanesOpen := false, lanes := { Lanes.empty with roll := some (freshRoll .join) }, sending := none, undeliveredRun := 0 } := by
      rw [enterDeparted_of_normal hsupply, finish_link_of_no_marks (marks_joinCore ..), joinCore_link, enterSilent_link_eq]
      rfl
    rw [hlink]
    refine ⟨?_, rfl, rfl, nofun, fun _ => ⟨?_, ?_, rfl⟩⟩
    · rw [enterDeparted_of_normal hsupply]
      have hjoin : s.emptiesLanes s.link.lanes (joinCore .supplyRecovered (enterSilent o .departed s)) := by
        obtain ⟨hsending, hrun, hdropped, htable⟩ := hempties
        refine ⟨?_, ?_, ?_, ?_⟩
        · rw [joinCore_link]; exact hsending
        · rw [joinCore_link]; exact hrun
        · rw [joinCore_ann]; exact hdropped
        · rw [joinCore_table]; exact htable
      refine hjoin.trans_looked ?_ (finish_looked _).1
      exact (joinCore_me ..).trans (enterSilent_me ..)
    · rw [finish_control, enterDeparted_of_normal hsupply, joinCore_control]
    · rw [finish_control, enterDeparted_of_normal hsupply, joinCore_control]

/-- An emptying after the frame is abandoned empties the lanes without its head. -/
theorem abandoned_empties {c : Instr} {lane : Lane} {s u t : State} (hlooked : (s.drawn.withLink (abandonedLink c lane s.link)).Looked u)
    (h : u.emptiesLanes u.link.lanes t) : s.emptiesLanes (dropUndelivered lane (failHead lane s.link.lanes)) t :=
  emptiesLanes_congr (s' := s.drawn.withLink (abandonedLink c lane s.link)) rfl (fun _ _ => rfl) rfl rfl (hlooked.empties h)

/-- Settles O34: the head abandoned, and the LEAVE abandoned in DEPARTING. -/
theorem eighthFailureIsUndelivered : Obligations.EighthFailureIsUndelivered := by
  refine ⟨fun c s a hc hactive hsending howed hmany hfew hends => ?_, dropUndelivered_failHead,
    fun c s a hc hactive hsending howed hmany hfew hends => ?_⟩
  · refine ⟨_, exec_abandons hc hactive hsending howed hmany, ?_⟩
    rw [if_neg (Nat.not_le.mpr hfew), if_neg (by simp [hends])]
    have hlooked := (causeMoment_looked (Config.orders s.draws) (s.drawn.withLink (abandonedLink c a.lane s.link))).1.trans
      (finish_looked _).1
    obtain ⟨marks, hlink, hmarks⟩ := hlooked.link
    refine ⟨?_, ?_, ?_, ?_, ?_, fun hdegraded hcause => ?_, ?_, ?_, ?_, hlooked.control, hlooked.roster, hlooked.monitor,
      hlooked.service, hlooked.pins⟩
    case refine_6 =>
      have hlevel : s.engine.healthLevel = true := hcause.symm.trans (anyCause_of_degraded hdegraded)
      rw [causeMoment_of_degraded (s := s.drawn.withLink (abandonedLink c a.lane s.link)) rfl hlevel,
        finish_of_degraded (s := s.drawn.withLink (abandonedLink c a.lane s.link)) rfl hlevel, settle_link]
      rfl
    all_goals rw [hlink]
    case refine_5 => exact hmarks
    all_goals rfl
  · refine ⟨_, exec_abandons hc hactive hsending howed hmany, ?_⟩
    rw [if_neg (Nat.not_le.mpr hfew), if_pos hends]
    have hlooked := (causeMoment_looked (Config.orders s.draws) (s.drawn.withLink (abandonedLink c a.lane s.link))).1
    obtain ⟨marks, hlink, hmarks⟩ := hlooked.link
    obtain ⟨hempties, hundelivered, hdegraded, hlow, hnormal⟩ := finish_enterDeparted (o := Config.orders s.draws)
      (s := causeMoment (Config.orders s.draws) (s.drawn.withLink (abandonedLink c a.lane s.link)))
    have hroll : a.lane = .roll := by
      simp only [State.leaveEnds, Bool.and_eq_true, beq_iff_eq] at hends
      exact hends.1.1
    obtain ⟨hreport, hoperator⟩ := dropUndelivered_roll s.link.lanes
    have hwhole := emptiesLanes_of_lanes (l := s.link.lanes) (by rw [hroll]; exact hreport)
      (by rw [hroll]; exact hoperator) (abandoned_empties hlooked hempties)
    rw [hlooked.control] at hlow hnormal
    have ⟨hsending', hrun, _⟩ := hwhole
    exact ⟨by rw [hundelivered, hlink]; rfl, by rw [hdegraded, hlink]; rfl, hsending', hrun, hwhole, hlow, hnormal⟩

end Sys2Proof.Machine

/-! PROOFS. The sixteenth undelivered frame in a row (R14, R69, R90, R99, R178, R181). -/

namespace Sys2Proof.Machine

theorem reportMark_of_empty {s : State} (h : s.link.lanes = .empty) (p : PointNo) : s.reportMark p = .none := by
  rw [State.reportMark, h]
  rfl

/-! ### The entry into ISOLATED (R178, R181) -/

theorem enterIsolated_of_normal {o : Orders} {s : State} (h : s.control.supply = .normal) :
    enterIsolated o s = startHold (enterSilent o .isolated s) := by
  have hsupply : (startHold (enterSilent o .isolated s)).control.supply = .normal := by
    change (enterSilent o .isolated s).control.supply = .normal
    rw [enterSilent_control]
    exact (leaveState_supply s).trans h
  unfold enterIsolated
  dsimp only
  rw [if_neg (by rw [hsupply]; decide)]

theorem enterIsolated_of_low {o : Orders} {s : State} (h : s.control.supply = .low) :
    enterIsolated o s = enterSilent o .departed (startHold (enterSilent o .isolated s)) := by
  have hsupply : (startHold (enterSilent o .isolated s)).control.supply = .low := by
    change (enterSilent o .isolated s).control.supply = .low
    rw [enterSilent_control]
    exact (leaveState_supply s).trans h
  unfold enterIsolated
  dsimp only
  rw [if_pos hsupply]

/-- Station Control after the entry into ISOLATED. -/
theorem enterIsolated_control (o : Orders) (s : State) :
    (s.control.supply = .normal →
      (enterIsolated o s).control.station = .isolated ∧ (enterIsolated o s).control.isolationHold = .running 2000 0) ∧
      (s.control.supply = .low →
        (enterIsolated o s).control.station = .departed ∧ (enterIsolated o s).control.isolationHold = .stopped) := by
  refine ⟨fun h => ?_, fun h => ?_⟩
  · rw [enterIsolated_of_normal h]
    exact ⟨enterSilent_station .., rfl⟩
  · rw [enterIsolated_of_low h]
    refine ⟨enterSilent_station .., ?_⟩
    rw [enterSilent_control, leaveState_of_isolated (s := startHold (enterSilent o .isolated s)) (enterSilent_station ..)]
    rfl

theorem enterIsolated_silent (o : Orders) (s : State) : (enterIsolated o s).control.station.silent = true := by
  obtain ⟨hnormal, hlow⟩ := enterIsolated_control o s
  cases h : s.control.supply with
  | normal => rw [(hnormal h).1]; rfl
  | low => rw [(hlow h).1]; rfl

theorem enterIsolated_link (o : Orders) (s : State) :
    (enterIsolated o s).link = { s.link with lanes := .empty, sending := none, undeliveredRun := 0 } := by
  have hheld : (startHold (enterSilent o .isolated s)).link = { s.link with lanes := .empty, sending := none, undeliveredRun := 0 } :=
    enterSilent_link_eq o .isolated s
  cases h : s.control.supply with
  | normal => rw [enterIsolated_of_normal h, hheld]
  | low => rw [enterIsolated_of_low h, enterSilent_link_eq, hheld]

theorem enterIsolated_presence (o : Orders) (s : State) : (enterIsolated o s).roster.presence = .stopped := by
  cases h : s.control.supply with
  | normal => rw [enterIsolated_of_normal h]; exact enterSilent_presence ..
  | low => rw [enterIsolated_of_low h]; exact enterSilent_presence ..

theorem enterIsolated_point (o : Orders) (s : State) {p : PointNo} (hp : p ≠ 16) : (enterIsolated o s).point p = s.point p := by
  have hheld : (startHold (enterSilent o .isolated s)).point p = s.point p := enterSilent_point o .isolated s hp
  cases h : s.control.supply with
  | normal => rw [enterIsolated_of_normal h, hheld]
  | low => rw [enterIsolated_of_low h, enterSilent_point o .departed _ hp, hheld]

/-- What neither an entry into a silent state nor the hold changes, the entry into ISOLATED leaves. -/
theorem enterIsolated_keeps {α : Type} {field : State → α}
    (hsilent : ∀ (o : Orders) (st : StationState) (s : State), field (enterSilent o st s) = field s)
    (hhold : ∀ s, field (startHold s) = field s) (o : Orders) (s : State) : field (enterIsolated o s) = field s := by
  unfold enterIsolated
  dsimp only
  split
  · rw [hsilent, hhold, hsilent]
  · rw [hhold, hsilent]

/-- The entry into ISOLATED empties the lanes (R99). -/
theorem enterIsolated_empties (o : Orders) (s : State) : s.emptiesLanes s.link.lanes (enterIsolated o s) := by
  have hheld : s.emptiesLanes s.link.lanes (startHold (enterSilent o .isolated s)) := enterSilent_empties o .isolated s
  cases h : s.control.supply with
  | normal => rw [enterIsolated_of_normal h]; exact hheld
  | low =>
    rw [enterIsolated_of_low h]
    have hempty : (startHold (enterSilent o .isolated s)).link.lanes = .empty := (enterSilent_link o .isolated s).1
    have hagain := enterSilent_empties o .departed (startHold (enterSilent o .isolated s))
    rw [hempty] at hagain
    exact hheld.trans_empty (enterSilent_me o .isolated s) hagain

/-! ### With LINK_DEGRADED set before (R17) -/

theorem enterSilent_of_degraded {o : Orders} {st : StationState} {s : State} (hd : s.link.degraded = true)
    (hl : s.engine.healthLevel = true) :
    enterSilent o st s = emptyLanes (stopPresence ((leaveState s).withStation st)) := by
  rw [enterSilent, causeMoment_of_degraded (by simpa [stopPresence] using hd) (by simpa [stopPresence] using hl)]

theorem enterSilent_table_of_degraded {o : Orders} {st : StationState} {s : State} {n : StationNo} (hd : s.link.degraded = true)
    (hl : s.engine.healthLevel = true) (hme : s.me = some n) :
    (enterSilent o st s).table = deliverMarks s.me n (stopPresence ((leaveState s).withStation st)).contents s.link.lanes.report s.table := by
  have hme' : (stopPresence ((leaveState s).withStation st)).me = s.me := by simp [stopPresence, State.me]
  rw [enterSilent_of_degraded hd hl, emptyLanes_table (hme'.trans hme), hme']
  simp [stopPresence]

theorem contents_stopPresence (st : StationState) (s : State) :
    (stopPresence ((leaveState s).withStation st)).contents = s.contents := by
  funext p
  have hloaded : (leaveState s).control.loaded = s.control.loaded := by
    unfold leaveState
    split <;> rfl
  simp [State.contents, State.point, State.groupOptions, stopPresence, hloaded]

/-- The entry into ISOLATED with LINK_DEGRADED set before it delivers the marks and nothing else. -/
theorem enterIsolated_table_of_degraded {o : Orders} {s : State} {n : StationNo} (hd : s.link.degraded = true)
    (hl : s.engine.healthLevel = true) (hme : s.me = some n) :
    (enterIsolated o s).table = deliverMarks s.me n s.contents s.link.lanes.report s.table ∧
      (enterIsolated o s).engine.healthLevel = true := by
  have hfirst : (startHold (enterSilent o .isolated s)).table = deliverMarks s.me n s.contents s.link.lanes.report s.table := by
    rw [← contents_stopPresence .isolated s]
    exact enterSilent_table_of_degraded hd hl hme
  have hlevel {st : StationState} {u : State} (hd : u.link.degraded = true) (hl : u.engine.healthLevel = true) :
      (enterSilent o st u).engine.healthLevel = true := by
    rw [enterSilent_of_degraded hd hl, emptyLanes_engine]
    simpa [stopPresence] using hl
  cases h : s.control.supply with
  | normal =>
    rw [enterIsolated_of_normal h]
    exact ⟨hfirst, hlevel hd hl⟩
  | low =>
    rw [enterIsolated_of_low h]
    have hd' : (startHold (enterSilent o .isolated s)).link.degraded = true := by
      change (enterSilent o .isolated s).link.degraded = true
      rw [enterSilent_link_eq]
      exact hd
    have hl' : (startHold (enterSilent o .isolated s)).engine.healthLevel = true := hlevel hd hl
    have hempty : (startHold (enterSilent o .isolated s)).link.lanes = .empty := (enterSilent_link o .isolated s).1
    refine ⟨?_, hlevel hd' hl'⟩
    rw [enterSilent_table_of_degraded hd' hl' ((enterSilent_me o .isolated s).trans hme), hempty, ← hfirst]
    rfl

/-- Settles O35: the emptying in any state, and the entry into ISOLATED. -/
theorem sixteenthUndeliveredIsolates : Obligations.SixteenthUndeliveredIsolates := by
  refine ⟨fun s => ⟨emptyLanes_link s, emptyLanes_operatorDropped s, reportMark_of_empty (by rw [emptyLanes_link]),
    fun n hme => ⟨emptyLanes_table hme, emptyLanes_repair s⟩, by simp, by simp, by simp, by simp, by simp, by simp⟩, ?_⟩
  intro c s a hc hactive hsending howed hmany hfull
  refine ⟨_, exec_abandons hc hactive hsending howed hmany, ?_⟩
  rw [if_pos hfull]
  have hlooked := (causeMoment_looked (Config.orders s.draws) (s.drawn.withLink (abandonedLink c a.lane s.link))).1
  generalize hu : causeMoment (Config.orders s.draws) (s.drawn.withLink (abandonedLink c a.lane s.link)) = u at hlooked ⊢
  obtain ⟨marks, hlink, _⟩ := hlooked.link
  have hend : (finish (enterIsolated (Config.orders s.draws) u)).link =
      { u.link with lanes := .empty, sending := none, undeliveredRun := 0 } := by
    rw [finish_link_of_no_marks (marks_of_silent (enterIsolated_silent ..)), enterIsolated_link]
  obtain ⟨hfinish, -⟩ := finish_looked (enterIsolated (Config.orders s.draws) u)
  obtain ⟨hnormal, hlow⟩ := enterIsolated_control (Config.orders s.draws) u
  rw [hlooked.control] at hnormal hlow
  refine ⟨by rw [hend], by rw [hend], by rw [hend], by rw [hend, hlink]; rfl, by rw [hend, hlink]; rfl, ?_, ?_, fun hdegraded hcause n hn => ?_,
    fun p hp => ?_, ?_, ?_, ?_, ?_, ?_⟩
  · rw [finish_roster, enterIsolated_presence]
  · refine abandoned_empties hlooked ((enterIsolated_empties _ u).trans_looked ?_ hfinish)
    exact enterIsolated_keeps (field := State.me) enterSilent_me (fun _ => rfl) _ u
  · have hlevel : s.engine.healthLevel = true := hcause.symm.trans (anyCause_of_degraded hdegraded)
    rw [causeMoment_of_degraded (s := s.drawn.withLink (abandonedLink c a.lane s.link)) rfl hlevel] at hu
    subst hu
    obtain ⟨htable, hl⟩ := enterIsolated_table_of_degraded (o := Config.orders s.draws)
      (s := s.drawn.withLink (abandonedLink c a.lane s.link)) (n := n) rfl hlevel hn
    rw [finish_of_degraded (by rw [enterIsolated_link]; rfl) hl, settle_table, htable]
    rfl
  · rw [hfinish.points p hp, enterIsolated_point _ u hp, hlooked.points p hp]
    rfl
  · rw [finish_monitor, enterIsolated_keeps (field := State.monitor) (fun _ _ _ => by simp) (fun _ => rfl), hlooked.monitor]
    rfl
  · rw [finish_service, enterIsolated_keeps (field := State.service) (fun _ _ _ => by simp) (fun _ => rfl), hlooked.service]
    rfl
  · rw [finish_pins, enterIsolated_keeps (field := State.pins) (fun _ _ _ => by simp) (fun _ => rfl), hlooked.pins]
    rfl
  · rw [finish_control]
    exact hnormal
  · rw [finish_control]
    exact hlow

end Sys2Proof.Machine

/-! PROOFS. The supply monitor (R97, R99, R134, R150, R167, R177 to R180). -/

namespace Sys2Proof.Machine

/-! ### The warning against each station state (R167) -/

/-- Whether a supply warning takes the station through DEPARTING: it is past its own JOIN's delivery. -/
def State.leavesWarned (s : State) : Prop :=
  s.control.station = .running ∨ (s.control.station = .joining ∧ s.link.lanesOpen = true)

/-- Whether a supply warning takes the station to DEPARTED at once. -/
def State.departsWarned (s : State) : Prop :=
  s.control.station = .listening ∨ s.control.station = .isolated ∨ (s.control.station = .joining ∧ s.link.lanesOpen = false)

theorem takeWarning_of_leaves {o : Orders} {s : State} (h : s.leavesWarned) : takeWarning o s = enterDeparting s := by
  unfold takeWarning
  obtain hst | ⟨hst, hopen⟩ := h
  · simp only [hst]
  · simp only [hst, hopen, if_true]

theorem takeWarning_of_departs {o : Orders} {s : State} (h : s.departsWarned) : takeWarning o s = enterDeparted o s := by
  unfold takeWarning
  obtain hst | hst | ⟨hst, hclosed⟩ := h
  · simp only [hst]
  · simp only [hst]
  · simp [hst, hclosed]

theorem takeWarning_of_other {o : Orders} {s : State} (h : ¬s.leavesWarned) (h' : ¬s.departsWarned) : takeWarning o s = s := by
  unfold takeWarning
  split
  · next hst => exact absurd (.inl hst) h'
  · next hst =>
    split
    · next hopen => exact absurd (.inr ⟨hst, hopen⟩) h
    · next hclosed => exact absurd (.inr (.inr ⟨hst, by simpa using hclosed⟩)) h'
  · next hst => exact absurd (.inl hst) h
  · next hst => exact absurd (.inr (.inl hst)) h'
  · rfl

theorem exec_supplyWarning {s : State} (hawake : s.control.inReset = false) (hsupply : s.control.supply = .normal) :
    exec .supplyWarning s = .next (finish (takeWarning (Config.orders s.draws) (setSupply .low s.drawn))) := by
  refine (congrArg _ (whenAwake_of_awake hawake)).trans ?_
  rw [supplyWarning, drawn_control, hsupply]

theorem exec_supplyRelease {s : State} (hawake : s.control.inReset = false) (hsupply : s.control.supply = .low) :
    exec .supplyRelease s = .next (finish (takeRelease (Config.orders s.draws) (setSupply .normal s.drawn))) := by
  refine (congrArg _ (whenAwake_of_awake hawake)).trans ?_
  rw [supplyRelease, drawn_control, hsupply]

/-! ### The entry into DEPARTING (R97, R179) -/

/-- Whether a PRESENCE's attempt is on the medium, so that a LEAVE is owed behind it (R97). -/
def State.presenceOnAir (s : State) : Prop :=
  ∃ a f, s.link.sending = some a ∧ a.lane = .roll ∧ s.link.lanes.roll = some f ∧ f.kind = .presence

theorem enterDeparting_link (s : State) :
    (enterDeparting s).link = { s.link with lanes := placeLeave (s.onAir .roll) s.link.lanes } := by
  rw [enterDeparting]
  simp only [withLanes_eq, withLink_link, withStation_eq, withControl_link, leaveState_link, State.onAir]

theorem placeLeave_of_presence {s : State} (h : s.presenceOnAir) :
    placeLeave (s.onAir .roll) s.link.lanes = { s.link.lanes with leaveOwed := true } := by
  obtain ⟨a, f, hsending, hlane, hroll, hkind⟩ := h
  have hair : s.onAir .roll = true := (onAir_iff s .roll).mpr ⟨a, hsending, hlane⟩
  unfold placeLeave
  rw [hroll]
  dsimp only
  rw [if_pos ⟨hair, hkind⟩, ← hroll]

theorem placeLeave_of_no_presence {s : State} (h : ¬s.presenceOnAir) :
    placeLeave (s.onAir .roll) s.link.lanes = { s.link.lanes with roll := some (freshRoll .leave) } := by
  unfold placeLeave
  split
  · rfl
  · next f hroll =>
    rw [if_neg]
    rintro ⟨hair, hkind⟩
    obtain ⟨a, hsending, hlane⟩ := (onAir_iff s .roll).mp hair
    exact h ⟨a, f, hsending, hlane, hroll, hkind⟩

theorem enterDeparting_station (s : State) : (enterDeparting s).control.station = .departing := rfl

theorem enterDeparting_supply (s : State) : (enterDeparting s).control.supply = s.control.supply := leaveState_supply s

theorem leaveState_presence (s : State) : (leaveState s).roster.presence = s.roster.presence := by
  unfold leaveState
  split <;> rfl

theorem enterDeparting_presence (s : State) : (enterDeparting s).roster.presence = s.roster.presence := leaveState_presence s

theorem enterSilent_awaited {o : Orders} {st : StationState} {s : State} (h : s.control.station = .joining) :
    (enterSilent o st s).roster.awaited = [] ∧ (enterSilent o st s).roster.joinWindow = .stopped := by
  rw [enterSilent, emptyLanes_roster, causeMoment_roster, leaveState_of_joining h]
  exact ⟨rfl, rfl⟩

/-- What the lanes hold once the LEAVE is placed and the command has ended. -/
theorem finish_enterDeparting (s : State) :
    (s.presenceOnAir →
      (finish (enterDeparting s)).link.lanes.leaveOwed = true ∧
        (finish (enterDeparting s)).link.lanes.roll = s.link.lanes.roll) ∧
      (¬s.presenceOnAir →
        (finish (enterDeparting s)).link.lanes.leaveOwed = s.link.lanes.leaveOwed ∧
          (finish (enterDeparting s)).link.lanes.roll = some { kind := .leave, attempt := 0, failed := 0 }) ∧
      (finish (enterDeparting s)).link.lanes.operator = s.link.lanes.operator ∧
      (finish (enterDeparting s)).link.lanes.repair = s.link.lanes.repair ∧
      (finish (enterDeparting s)).link.lanes.report.filter (fun m => decide (m.point ≠ 16)) =
        s.link.lanes.report.filter (fun m => decide (m.point ≠ 16)) ∧
      (finish (enterDeparting s)).link.sending = s.link.sending ∧
      (finish (enterDeparting s)).roster.presence = s.roster.presence := by
  obtain ⟨marks, hlink, hmarks⟩ := (finish_looked (enterDeparting s)).1.link
  have hroster : (finish (enterDeparting s)).roster.presence = s.roster.presence := by
    rw [finish_roster, enterDeparting_presence]
  rw [hlink]
  rw [enterDeparting_link] at hmarks ⊢
  by_cases hbehind : s.presenceOnAir
  · rw [placeLeave_of_presence hbehind] at hmarks ⊢
    exact ⟨fun _ => ⟨rfl, rfl⟩, fun h => absurd hbehind h, rfl, rfl, hmarks, rfl, hroster⟩
  · rw [placeLeave_of_no_presence hbehind] at hmarks ⊢
    exact ⟨fun h => absurd h hbehind, fun _ => ⟨rfl, rfl⟩, rfl, rfl, hmarks, rfl, hroster⟩

/-! ### The statement -/

/-- The supply warning, in the three ways a station state takes it. -/
theorem supplyWarning_moves {o : Orders} {s w : State} (hw : w = setSupply .low s.drawn) :
    (finish (takeWarning o w)).control.supply = .low ∧
      (finish (takeWarning o w)).control.station =
        (match s.control.station with
        | .listening => .departed
        | .joining => if s.link.lanesOpen then .departing else .departed
        | .running => .departing
        | .isolated => .departed
        | other => other) := by
  have hst : w.control.station = s.control.station := by rw [hw]; rfl
  have hopen : w.link.lanesOpen = s.link.lanesOpen := by rw [hw]; rfl
  have hlow : w.control.supply = .low := by rw [hw]; rfl
  rw [finish_control]
  by_cases hleaves : w.leavesWarned
  · rw [takeWarning_of_leaves hleaves, enterDeparting_supply, enterDeparting_station]
    refine ⟨hlow, ?_⟩
    rw [State.leavesWarned, hst, hopen] at hleaves
    obtain h | ⟨h, hopen⟩ := hleaves
    · rw [h]
    · rw [h, hopen]; rfl
  · by_cases hdeparts : w.departsWarned
    · rw [takeWarning_of_departs hdeparts, enterDeparted_of_low hlow]
      refine ⟨?_, ?_⟩
      · rw [enterSilent_control]
        exact (leaveState_supply w).trans hlow
      · rw [enterSilent_station]
        rw [State.departsWarned, hst, hopen] at hdeparts
        obtain h | h | ⟨h, hclosed⟩ := hdeparts
        · rw [h]
        · rw [h]
        · rw [h, hclosed]; rfl
    · rw [takeWarning_of_other hleaves hdeparts]
      refine ⟨hlow, hst.trans ?_⟩
      rw [State.leavesWarned, hst, hopen] at hleaves
      rw [State.departsWarned, hst, hopen] at hdeparts
      cases h : s.control.station <;> simp_all

/-- Settles O10: the warning through DEPARTING and to DEPARTED, and the release. -/
theorem supplyMonitorMovesTheStation : Obligations.SupplyMonitorMovesTheStation := by
  refine ⟨fun s hawake hsupply => ⟨_, exec_supplyWarning hawake hsupply, ?_⟩,
    fun s hawake hsupply => ⟨_, exec_supplyRelease hawake hsupply, ?_⟩⟩
  · obtain ⟨hlow, hstation⟩ := supplyWarning_moves (o := Config.orders s.draws) (s := s) rfl
    refine ⟨hlow, hstation, fun hst n => ?_, fun hst => ?_, fun h => ?_, fun h => ?_⟩
    · rw [takeWarning_of_leaves (s := setSupply .low s.drawn) (.inl hst), repairOf_of_repair (finish_repair _), enterDeparting,
        leaveState_of_running (s := setSupply .low s.drawn) hst]
      exact Vector.getElem_replicate _
    · rw [finish_roster]
      cases hopen : s.link.lanesOpen with
      | true =>
        rw [takeWarning_of_leaves (s := setSupply .low s.drawn) (.inr ⟨hst, hopen⟩), enterDeparting,
          leaveState_of_joining (s := setSupply .low s.drawn) hst]
        exact ⟨rfl, rfl⟩
      | false =>
        rw [takeWarning_of_departs (s := setSupply .low s.drawn) (.inr (.inr ⟨hst, hopen⟩)), enterDeparted_of_low rfl]
        exact enterSilent_awaited (s := setSupply .low s.drawn) hst
    · rw [takeWarning_of_leaves (s := setSupply .low s.drawn) h]
      exact finish_enterDeparting (setSupply .low s.drawn)
    · have hdeparts : (setSupply .low s.drawn).departsWarned := h
      rw [takeWarning_of_departs hdeparts]
      obtain ⟨hempties, -, -, hlow, -⟩ := finish_enterDeparted (o := Config.orders s.draws) (s := setSupply .low s.drawn)
      refine ⟨(hlow rfl).2, ?_, emptiesLanes_congr (s' := setSupply .low s.drawn) rfl (fun _ _ => rfl) rfl rfl hempties⟩
      rw [finish_roster, enterDeparted_of_low rfl, enterSilent_presence]
  · rw [finish_control]
    by_cases hst : s.control.station = .departed
    · have hrelease : takeRelease (Config.orders s.draws) (setSupply .normal s.drawn) =
          joinCore .supplyRecovered (setSupply .normal s.drawn) := by
        unfold takeRelease
        rw [show (setSupply .normal s.drawn).control.station = .departed from hst]
        exact enterJoining_of_normal rfl
      have hleave : leaveState (setSupply .normal s.drawn) = setSupply .normal s.drawn := by
        unfold leaveState
        rw [show (setSupply .normal s.drawn).control.station = .departed from hst]
      rw [hrelease, finish_roll, joinCore_link, joinCore_control, hleave]
      exact ⟨rfl, rfl, fun h => absurd hst h, fun _ => ⟨rfl, rfl, rfl⟩⟩
    · have hrelease : takeRelease (Config.orders s.draws) (setSupply .normal s.drawn) = setSupply .normal s.drawn := by
        unfold takeRelease
        split
        · next h => exact absurd h hst
        · rfl
      rw [hrelease]
      exact ⟨rfl, rfl, fun _ => rfl, fun h => absurd h hst⟩

end Sys2Proof.Machine

/-! PROOFS. A delivered frame at a station that did not send it, and the duplicate of its number (R84, R88, R99 to R101, R113). -/

namespace Sys2Proof.Machine

/-! ### The receiver (R84, R88) -/

theorem of_receives {s : State} (h : s.receives = true) :
    s.active = true ∧ s.link.gapSensed = true ∧ s.link.sending = none := by
  simp only [State.receives, Bool.and_eq_true, Option.isNone_iff_eq_none] at h
  obtain ⟨⟨hactive, hgap⟩, hsending⟩ := h
  exact ⟨hactive, hgap, hsending⟩

/-- A receiver that has counted a good frame. -/
def State.counted (s : State) : State :=
  s.drawn.withLink { s.link with receivedGood := s.link.receivedGood.bump, objecting := false }

theorem deliver_of_receives {o : Orders} {f : Frame} {own other : State → State} {s : State} (h : s.receives = true) :
    deliver o f own other s.drawn =
      if s.me = some f.source then (if s.control.station.objects then enterHalted o s.counted else s.counted) else other s.counted := by
  obtain ⟨hactive, hgap, hsending⟩ := of_receives h
  have hreceive : deliver o f own other s.drawn = deliver.receive o f other s.drawn := by
    unfold deliver
    rw [if_pos (show s.drawn.active = true from hactive), drawn_link, hsending]
  rw [hreceive, deliver.receive, drawn_link, if_pos hgap]
  rfl

/-- A frame of another station is taken as its kind says. -/
theorem deliver_other {o : Orders} {f : Frame} {own other : State → State} {s : State} (h : s.receives = true)
    (hme : s.me ≠ some f.source) : deliver o f own other s.drawn = other s.counted := by
  rw [deliver_of_receives h, if_neg hme]

/-- Every delivery is one `deliver`, with its kind's effects at the sender and at a receiver. -/
theorem exec_deliveryOf (f : Frame) {s : State} (h : s.active = true) : ∃ own other : State → State,
    exec (deliveryOf f) s = .next (finish (deliver (Config.orders s.draws) f own other s.drawn)) := by
  obtain ⟨src, payload⟩ := f
  cases payload with
  | report b => exact ⟨_, _, whenActive_next h⟩
  | operator b => exact ⟨_, _, whenActive_next h⟩
  | resyncRequest owners => exact ⟨_, _, whenActive_next h⟩
  | dump b => exact ⟨_, _, whenActive_next h⟩
  | join b => exact ⟨_, _, whenActive_next h⟩
  | presence b => exact ⟨_, _, whenActive_next h⟩
  | leave c => exact ⟨_, _, whenActive_next h⟩

/-! ### A frame with the own number (R100, R101) -/

/-- Settles O48: the count alone, and in the objecting states the entry into HALTED. -/
theorem duplicateNumberHalts : Obligations.DuplicateNumberHalts := by
  intro s f h hme hcause
  obtain ⟨hactive, -, -⟩ := of_receives h
  obtain ⟨own, other, hexec⟩ := exec_deliveryOf f hactive
  refine ⟨_, hexec, ?_⟩
  rw [deliver_of_receives h, if_pos hme]
  cases hobjects : s.control.station.objects with
  | true =>
    rw [if_pos rfl, enterHalted]
    have hlink := finish_enterSilent_link (o := Config.orders s.draws) (st := .halted) (s := s.counted) rfl
    have hempties : s.emptiesLanes s.link.lanes (finish (enterSilent (Config.orders s.draws) .halted s.counted)) :=
      emptiesLanes_congr (s' := s.counted) rfl (fun _ _ => rfl) rfl rfl
        ((enterSilent_empties _ .halted s.counted).trans_looked (enterSilent_me ..) (finish_looked _).1)
    refine ⟨by rw [hlink, enterSilent_link_eq]; rfl, ?_, fun _ => ⟨?_, by rw [hlink, enterSilent_link_eq], hempties⟩, nofun,
      by simp [State.counted], by simp [State.counted], by simp [State.counted]⟩
    · rw [finish_roster, enterSilent_entries]
      rfl
    · rw [finish_control, enterSilent_station]
  | false =>
    rw [if_neg (by decide)]
    obtain ⟨hlink, hcontrol, hengine, hmonitor, htable, hroster, hrepair, hservice, hpins, -, -⟩ := finish_withLink (s := s)
      (l := { s.link with receivedGood := s.link.receivedGood.bump, objecting := false }) hcause rfl
    have hlanes : (finish s.counted).link.lanes = s.link.lanes := (congrArg LinkController.lanes hlink).trans rfl
    refine ⟨congrArg LinkController.receivedGood hlink, congrArg Roster.entries hroster, nofun,
      fun _ => ⟨hcontrol, htable, hengine, hrepair, hlanes⟩, hmonitor, hservice, hpins⟩

end Sys2Proof.Machine

/-! PROOFS. A command's table between the monitor's looks (R12, R17), and the Roster's take of a frame (R121, R124, R125). -/

namespace Sys2Proof.Machine

/-! ### The flags (R54, R55) under the changes of a table -/

theorem overflowLaw_of_entries {me : Option StationNo} {t u : AlarmTable} (h : overflowLaw me t) (hover : u.overflow = t.overflow)
    (htable : u.tableOverflow = t.tableOverflow) (hentries : occupancy me t.entries ≤ occupancy me u.entries) : overflowLaw me u := by
  obtain ⟨hsame, hoccupied⟩ := h
  exact ⟨by rw [hover, htable, hsame], fun hset => Nat.lt_of_lt_of_le (hoccupied (hover ▸ hset)) hentries⟩

/-- R54 and R55 are kept by every primitive change, whatever else the table holds. -/
theorem tableKeeps_overflowLaw (me : Option StationNo) : TableKeeps me (overflowLaw me) where
  remove c ch h := by
    cases hfind : ch.table.find c with
    | none => rwa [removeEntry_of_none hfind]
    | some e =>
      rw [removeEntry_table_of_find hfind]
      refine ⟨by rw [h.1], fun hset => ?_⟩
      simp only [Bool.and_eq_true, decide_eq_true_eq] at hset
      exact hset.2
  rewrite e f ch hf _ h :=
    overflowLaw_of_entries h rfl rfl (occupancy_congr (rewriteEntry_conditions e f ch hf)).ge
  create give src r st ch _ h := by
    obtain ⟨⟨_, hfull⟩, heq⟩ | ⟨_, heq⟩ := createEntry_cases me give src r st ch
    · rw [heq]
      have hplaces : overflowClearsAt < sharedPlaces := by decide
      exact ⟨rfl, fun _ => Nat.lt_of_lt_of_le hplaces hfull⟩
    · rw [heq]
      exact overflowLaw_of_entries h rfl rfl (by rw [occupancy_append_single]; exact Nat.le_add_right _ _)
  give _ _ _ h := by
    rw [giveSlotTo_table]
    exact h
  empty _ _ h := h
  stale b n t h := overflowLaw_of_entries h rfl rfl (occupancy_congr (conditions_staleAs b n t.entries)).ge

/-! ### The table a command gives, with the monitor's looks after it -/

/-- The table `u` of a command that began in the first state, after no more than `k` looks of the monitor. -/
structure State.settlesOn (s : State) (u : AlarmTable) (k : Nat) (t : State) : Prop where
  me : t.me = s.me
  marked : s.marks = true → t.marks = true ∧ t.table = u
  step : (t.point 16 = s.point 16 ∧ t.table = u) ∨
    ∃ j, 0 < j ∧ j ≤ k ∧ (t.point 16).revision = (s.point 16).revision + BitVec.ofNat 8 j
  table : u.agreesOn s.apartFromHealth t.table
  flags : overflowLaw s.me s.table → overflowLaw s.me t.table ∧ u.sameFlags t.table

theorem settlesOn_of_table {s t : State} (hme : t.me = s.me) (hmarks : s.marks = true → t.marks = true) (he : t.engine = s.engine)
    (hlaw : overflowLaw s.me s.table → overflowLaw s.me t.table) : s.settlesOn t.table 0 t :=
  ⟨hme, fun h => ⟨hmarks h, rfl⟩, .inl ⟨point_of_engine he 16, rfl⟩, t.table.agreesOn_refl _, fun h => ⟨hlaw h, rfl, rfl⟩⟩

/-- An act that leaves the table, the engine and the marking. -/
theorem State.settlesOn.act {s t t' : State} {u : AlarmTable} {k : Nat} (h : s.settlesOn u k t) (hme : t'.me = t.me)
    (hmarks : t.marks = true → t'.marks = true) (he : t'.engine = t.engine) (ht : t'.table = t.table) : s.settlesOn u k t' where
  me := hme.trans h.me
  marked hm := ⟨hmarks (h.marked hm).1, ht.trans (h.marked hm).2⟩
  step := by
    rw [ht, point_of_engine he 16]
    exact h.step
  table := ht ▸ h.table
  flags := ht ▸ h.flags

/-- One more look. -/
theorem State.settlesOn.look {s t v : State} {u : AlarmTable} {k : Nat} (h : s.settlesOn u k t) (hv : t.Looked v)
    (hstep : t.lookStep v) : s.settlesOn u (k + 1) v where
  me := hv.me.trans h.me
  marked hm := by
    obtain ⟨hmarks, htable⟩ := h.marked hm
    exact ⟨hv.marks_eq.trans hmarks, (hv.marked hmarks).trans htable⟩
  step := by
    obtain ⟨hpoint, htable⟩ | hrevision := hstep
    · rw [hpoint, htable]
      obtain hsame | ⟨j, hpos, hle, hj⟩ := h.step
      · exact .inl hsame
      · exact .inr ⟨j, hpos, hle.trans (Nat.le_succ k), hj⟩
    · refine .inr ?_
      obtain ⟨hpoint, -⟩ | ⟨j, -, hle, hj⟩ := h.step
      · exact ⟨1, Nat.one_pos, Nat.le_add_left 1 k, by rw [hrevision, hpoint]⟩
      · refine ⟨j + 1, Nat.succ_pos j, Nat.succ_le_succ hle, ?_⟩
        rw [hrevision, hj, BitVec.add_assoc, ← BitVec.ofNat_add]
  table := AlarmTable.agreesOn_trans h.table (apartFromHealth_congr h.me ▸ hv.table)
  flags hlaw := by
    obtain ⟨hbefore, hover, htable⟩ := h.flags hlaw
    rw [← h.me] at hbefore
    obtain ⟨hover', htable'⟩ := hv.flags hbefore
    exact ⟨h.me ▸ hv.me ▸ hv.overflowLaw hbefore, hover'.trans hover, htable'.trans htable⟩

theorem State.settlesOn.causeMoment {s t : State} {u : AlarmTable} {k : Nat} (h : s.settlesOn u k t) (o : Orders) :
    s.settlesOn u (k + 1) (causeMoment o t) := h.look (causeMoment_looked o t).1 (causeMoment_looked o t).2

theorem State.settlesOn.finish {s t : State} {u : AlarmTable} {k : Nat} (h : s.settlesOn u k t) :
    s.settlesOn u (k + 1) (finish t) := h.look (finish_looked t).1 (finish_looked t).2

theorem revision_add_ne {r : Revision} {j : Nat} (hpos : 0 < j) (hj : j < 256) : r + BitVec.ofNat 8 j ≠ r := by
  intro h
  have hzero : BitVec.ofNat 8 j = 0#8 := by simpa using h
  have := congrArg BitVec.toNat hzero
  simp only [BitVec.toNat_ofNat, Nat.mod_eq_of_lt hj] at this
  simp at this
  omega

/-- A command's table, but for the own point 16 (R12, R17). -/
theorem State.settlesOn.leavesTable {s t : State} {u : AlarmTable} {k : Nat} (h : s.settlesOn u k t) (hk : k < 256) :
    s.leavesTable u t := by
  obtain ⟨hentries, hslots, hkept, hdropped⟩ := h.table
  refine ⟨?_, hentries, hslots, hkept, hdropped, fun hlaw => (h.flags hlaw).2⟩
  rintro (hm | hpoint)
  · exact (h.marked hm).2
  · obtain ⟨-, htable⟩ | ⟨j, hpos, hle, hj⟩ := h.step
    · exact htable
    · rw [hpoint] at hj
      exact absurd hj.symm (revision_add_ne hpos (Nat.lt_of_le_of_lt hle hk))

/-! ### The Roster's take of a frame (R121, R124, R125) -/

/-- A roster entry whose station is heard (R124). -/
def RosterEntry.heard (e : RosterEntry) : RosterEntry := { e with state := if e.state.unheard then .present else e.state }

theorem revive_of_unheard {n : StationNo} {s : State} (h : (s.member n).state.unheard = true) :
    revive n s = takeChange (setStale false n) (s.setMember n (s.member n).heard) := by
  rw [RosterEntry.heard, if_pos h]
  unfold revive
  cases hstate : (s.member n).state <;> rw [hstate] at h
  case present => cases h
  case self => cases h

theorem revive_of_heard {n : StationNo} {s : State} (h : (s.member n).state.unheard = false) :
    revive n s = s ∧ (s.member n).heard = s.member n := by
  refine ⟨?_, by rw [RosterEntry.heard, h]; rfl⟩
  unfold revive
  cases hstate : (s.member n).state <;> rw [hstate] at h
  all_goals cases h

theorem setMember_self (n : StationNo) (s : State) : (s.setMember n (s.member n)).roster = s.roster := by
  show { s.roster with entries := s.roster.entries.set n.index s.roster.entries[n.index] } = s.roster
  rw [Fin.getElem_fin, Vector.set_getElem_self]

theorem revive_roster (n : StationNo) (s : State) : (revive n s).roster = (s.setMember n (s.member n).heard).roster := by
  cases h : (s.member n).state.unheard with
  | true => rw [revive_of_unheard h, takeChange_roster]
  | false =>
    obtain ⟨hsame, hentry⟩ := revive_of_heard h
    rw [hsame, hentry, setMember_self]

theorem member_revive (n m : StationNo) (s : State) :
    (revive n s).member m = if m = n then (s.member n).heard else s.member m :=
  (congrArg (fun r : Roster => r.entries[m.index]) (revive_roster n s)).trans (member_setMember s n m _)

/-- The source's entry after the take of its frame: what the frame records, and its silence timer from zero. -/
theorem member_rosterTake_self (n : StationNo) (f : RosterEntry → RosterEntry) (s : State) :
    (rosterTake n f s).member n =
      { f (s.member n).heard with
        silence := Timer.start (s.roster.lossWindow * intervalMs (f (s.member n).heard).interval) } := by
  have hwindow : (revive n s).roster.lossWindow = s.roster.lossWindow := by rw [revive_roster]; rfl
  rw [rosterTake, recordAndTime, member_setMember, if_pos rfl, member_revive, if_pos rfl, hwindow]

theorem member_rosterTake_of_ne {n m : StationNo} (f : RosterEntry → RosterEntry) (s : State) (h : m ≠ n) :
    (rosterTake n f s).member m = s.member m := by
  rw [rosterTake, recordAndTime, member_setMember, if_neg h, member_revive, if_neg h]

/-- The Roster's take touches its entries alone. -/
theorem rosterTake_roster (n : StationNo) (f : RosterEntry → RosterEntry) (s : State) :
    ∃ entries, (rosterTake n f s).roster = { s.roster with entries := entries } := by
  rw [rosterTake, recordAndTime, setMember_eq, withRoster_roster, revive_roster]
  exact ⟨_, rfl⟩

theorem revive_repair (n : StationNo) (s : State) : (revive n s).repair = s.repair := by
  cases h : (s.member n).state.unheard with
  | true => rw [revive_of_unheard h, takeChange_repair_of_overflow rfl]; rfl
  | false => rw [(revive_of_heard h).1]

@[simp] theorem rosterTake_repair (n : StationNo) (f : RosterEntry → RosterEntry) (s : State) :
    (rosterTake n f s).repair = s.repair := revive_repair n s

theorem revive_ann (n : StationNo) (s : State) : ∃ horn, (revive n s).ann = { s.ann with horn := horn } := by
  cases h : (s.member n).state.unheard with
  | true => rw [revive_of_unheard h, takeChange_ann]; exact ⟨_, rfl⟩
  | false => rw [(revive_of_heard h).1]; exact ⟨_, rfl⟩

theorem heardEntries_conditions (s : State) (n : StationNo) :
    (s.heardEntries n).map Entry.condition = s.table.entries.map Entry.condition := by
  unfold State.heardEntries
  split
  · exact conditions_staleAs false n _
  · rfl

theorem overflowLaw_heard {s : State} (n : StationNo) (h : overflowLaw s.me s.table) :
    overflowLaw s.me { s.table with entries := s.heardEntries n } :=
  overflowLaw_of_entries h rfl rfl (occupancy_congr (heardEntries_conditions s n)).ge

/-! ### A receiver that has taken its source's frame in the Roster -/

/-- A receiver after the count and the Roster's take. -/
def State.taken (src : StationNo) (f : RosterEntry → RosterEntry) (s : State) : State := rosterTake src f s.counted

@[simp] theorem taken_control (src : StationNo) (f) (s : State) : (s.taken src f).control = s.control := rosterTake_control ..
@[simp] theorem taken_engine (src : StationNo) (f) (s : State) : (s.taken src f).engine = s.engine := rosterTake_engine ..
@[simp] theorem taken_monitor (src : StationNo) (f) (s : State) : (s.taken src f).monitor = s.monitor := rosterTake_monitor ..
@[simp] theorem taken_service (src : StationNo) (f) (s : State) : (s.taken src f).service = s.service := rosterTake_service ..
@[simp] theorem taken_pins (src : StationNo) (f) (s : State) : (s.taken src f).pins = s.pins := rosterTake_pins ..
@[simp] theorem taken_repair (src : StationNo) (f) (s : State) : (s.taken src f).repair = s.repair := rosterTake_repair ..

theorem taken_link (src : StationNo) (f) (s : State) :
    (s.taken src f).link = { s.link with receivedGood := s.link.receivedGood.bump, objecting := false } := rosterTake_link ..

theorem taken_table (src : StationNo) (f) (s : State) :
    (s.taken src f).table = { s.table with entries := s.heardEntries src } := rosterTake_table src f s.counted

theorem taken_roster (src : StationNo) (f) (s : State) : ∃ entries, (s.taken src f).roster = { s.roster with entries := entries } :=
  rosterTake_roster src f s.counted

theorem member_taken_self (src : StationNo) (f) (s : State) :
    (s.taken src f).member src =
      { f (s.member src).heard with
        silence := Timer.start (s.roster.lossWindow * intervalMs (f (s.member src).heard).interval) } :=
  member_rosterTake_self src f s.counted

theorem member_taken_of_ne {src m : StationNo} (f) (s : State) (h : m ≠ src) : (s.taken src f).member m = s.member m :=
  member_rosterTake_of_ne f s.counted h

theorem taken_me (src : StationNo) (f) (s : State) : (s.taken src f).me = s.me := me_of_control (taken_control ..)

theorem taken_marks (src : StationNo) (f) (s : State) : (s.taken src f).marks = s.marks :=
  marks_congr (taken_control ..) (by rw [taken_link])

theorem taken_settlesOn (src : StationNo) (f) (s : State) :
    s.settlesOn { s.table with entries := s.heardEntries src } 0 (s.taken src f) := by
  rw [← taken_table src f s]
  exact settlesOn_of_table (taken_me ..) (taken_marks src f s ▸ id) (taken_engine ..)
    (taken_table src f s ▸ overflowLaw_heard src)

end Sys2Proof.Machine

/-! PROOFS. A delivered JOIN and what a removal of an owner leaves (R47, R55, R125, R127). -/

namespace Sys2Proof.Machine

/-! ### A frame of another station -/

theorem whenActive_deliver_other {f : Frame} {own other : Orders → State → State} {s : State} (h : s.receives = true)
    (hme : s.me ≠ some f.source) :
    whenActive (fun s => finish (deliver (Config.orders s.draws) f (own (Config.orders s.draws)) (other (Config.orders s.draws)) s.drawn)) s =
      finish (other (Config.orders s.draws) s.counted) := by
  obtain ⟨hactive, -, -⟩ := of_receives h
  rw [whenActive, if_pos hactive, deliver_other h hme]

/-! ### The removal of an owner's entries and slots (R47, R48) -/

/-- Whether the flags of R54 stay set as the entries come to be those given (R55): nothing is removed, or 84 shared places stay taken. -/
def flagsStay (me : Option StationNo) (before left : List Entry) : Bool :=
  decide (left = before ∨ 84 ≤ occupancy me left)

theorem flagsStay_trans {me : Option StationNo} {es fs gs : List Entry} (hf : fs.Sublist es) (hg : gs.Sublist fs) :
    (flagsStay me es fs && flagsStay me fs gs) = flagsStay me es gs := by
  rw [flagsStay, flagsStay, flagsStay, ← Bool.decide_and]
  have hoccupied : occupancy me gs ≤ occupancy me fs := occupancy_sublist hg
  refine decide_eq_decide.mpr ⟨?_, ?_⟩
  · rintro ⟨rfl | hmany, rfl | hmany'⟩
    · exact .inl rfl
    · exact .inr hmany'
    · exact .inr hmany
    · exact .inr hmany'
  · rintro (rfl | hmany)
    · obtain rfl : fs = gs := hf.antisymm hg
      exact ⟨.inl rfl, .inl rfl⟩
    · exact ⟨.inr (hmany.trans hoccupied), .inr hmany⟩

theorem removeEntry_flags (me : Option StationNo) (c : Condition) (ch : Change) :
    (removeEntry me c ch).table.overflow =
        (ch.table.overflow && flagsStay me ch.table.entries (removeEntry me c ch).table.entries) ∧
      (removeEntry me c ch).table.tableOverflow =
        (ch.table.tableOverflow && flagsStay me ch.table.entries (removeEntry me c ch).table.entries) ∧
      (removeEntry me c ch).table.dropped = ch.table.dropped := by
  cases hfind : ch.table.find c with
  | none =>
    have hsame : flagsStay me ch.table.entries ch.table.entries = true := decide_eq_true (.inl rfl)
    rw [removeEntry_of_none hfind, hsame, Bool.and_true, Bool.and_true]
    exact ⟨rfl, rfl, rfl⟩
  | some e =>
    have hremoved : ch.table.entries.filter (fun x => x.condition != c) ≠ ch.table.entries := fun h => by
      have := List.filter_eq_self.mp h e (mem_of_find hfind)
      simp [condition_of_find hfind] at this
    have hstays : flagsStay me ch.table.entries (ch.table.entries.filter (fun x => x.condition != c)) =
        decide (overflowClearsAt < occupancy me (ch.table.entries.filter (fun x => x.condition != c))) :=
      decide_eq_decide.mpr ⟨fun h => h.resolve_left hremoved, .inr⟩
    rw [removeEntry_entries, hstays, removeEntry_table_of_find hfind]
    exact ⟨rfl, rfl, rfl⟩

theorem removeAll_entries (me : Option StationNo) (cs : List Condition) (ch : Change) :
    (removeAll me cs ch).table.entries = ch.table.entries.filter (fun e => decide (e.condition ∉ cs)) := by
  induction cs generalizing ch with
  | nil => exact (List.filter_eq_self.mpr fun _ _ => by simp).symm
  | cons c cs ih =>
    rw [removeAll_cons, ih, removeEntry_entries, List.filter_filter]
    refine List.filter_congr fun e _ => ?_
    by_cases hc : e.condition = c <;> simp [hc]

theorem removeAll_flags (me : Option StationNo) (cs : List Condition) (ch : Change) :
    (removeAll me cs ch).table.overflow =
        (ch.table.overflow && flagsStay me ch.table.entries (removeAll me cs ch).table.entries) ∧
      (removeAll me cs ch).table.tableOverflow =
        (ch.table.tableOverflow && flagsStay me ch.table.entries (removeAll me cs ch).table.entries) ∧
      (removeAll me cs ch).table.dropped = ch.table.dropped := by
  induction cs generalizing ch with
  | nil =>
    have hsame : flagsStay me ch.table.entries ch.table.entries = true := decide_eq_true (.inl rfl)
    rw [show removeAll me [] ch = ch from rfl, hsame, Bool.and_true, Bool.and_true]
    exact ⟨rfl, rfl, rfl⟩
  | cons c cs ih =>
    obtain ⟨hover, htable, hdropped⟩ := removeEntry_flags me c ch
    obtain ⟨hover', htable', hdropped'⟩ := ih (removeEntry me c ch)
    have hfirst : (removeEntry me c ch).table.entries.Sublist ch.table.entries := by
      rw [removeEntry_entries]
      exact List.filter_sublist
    have hrest : (removeAll me cs (removeEntry me c ch)).table.entries.Sublist (removeEntry me c ch).table.entries := by
      rw [removeAll_entries]
      exact List.filter_sublist
    rw [removeAll_cons, hover', htable', hover, htable, Bool.and_assoc, Bool.and_assoc, flagsStay_trans hfirst hrest]
    exact ⟨rfl, rfl, hdropped'.trans hdropped⟩

theorem removeAll_slots (me : Option StationNo) {n : StationNo} (cs : List Condition) (hcs : ∀ c ∈ cs, c.owner = n) (ch : Change) :
    (removeAll me cs ch).table.slots.map (slotApartFrom n) = ch.table.slots.map (slotApartFrom n) := by
  induction cs generalizing ch with
  | nil => rfl
  | cons c cs ih =>
    obtain ⟨hc, hrest⟩ := List.forall_mem_cons.mp hcs
    rw [removeAll_cons, ih hrest]
    cases hfind : ch.table.find c with
    | none => rw [removeEntry_of_none hfind]
    | some e =>
      rw [removeEntry_table_of_find hfind]
      cases c
      cases hc
      exact map_slotApartFrom_slotsWithout _ _ _

theorem mem_conditionsOf {n : StationNo} {es : List Entry} {e : Entry} (he : e ∈ es) :
    e.condition ∈ conditionsOf n es ↔ e.owner = n :=
  ⟨owner_of_mem_conditionsOf (c := e.condition), fun h => List.mem_map.mpr ⟨e, List.mem_filter.mpr ⟨he, beq_iff_eq.mpr h⟩, rfl⟩⟩

/-- The table without an owner, whatever station it is (R47, R48, R55). -/
theorem removeOwner_table (me : Option StationNo) (n : StationNo) (t : AlarmTable) (ns : List Notice) :
    (removeOwner me n ⟨t, ns⟩).table =
      { t with
        entries := t.entries.filter (fun e => decide (e.owner ≠ n)), slots := t.slots.map (slotApartFrom n),
        overflow := t.overflow && flagsStay me t.entries (t.entries.filter (fun e => decide (e.owner ≠ n))),
        tableOverflow := t.tableOverflow && flagsStay me t.entries (t.entries.filter (fun e => decide (e.owner ≠ n))) } := by
  have hentries : (removeAll me (conditionsOf n t.entries) ⟨t, ns⟩).table.entries = t.entries.filter (fun e => decide (e.owner ≠ n)) := by
    rw [removeAll_entries]
    exact List.filter_congr fun e he => decide_eq_decide.mpr (not_congr (mem_conditionsOf he))
  obtain ⟨hover, htable, hdropped⟩ := removeAll_flags me (conditionsOf n t.entries) ⟨t, ns⟩
  have hslots := removeAll_slots me (conditionsOf n t.entries) (fun _ => owner_of_mem_conditionsOf) ⟨t, ns⟩
  rw [hentries] at hover htable
  exact (AlarmTable.mk.injEq ..).mpr ⟨hentries, hslots, hover, htable, hdropped⟩

/-- The removal of an owner sets no OVERFLOW, so the repairs go on. -/
theorem takeChange_removeOwner_repair (me : Option StationNo) (n : StationNo) (s : State) :
    (takeChange (removeOwner me n) s).repair = s.repair := by
  unfold takeChange
  dsimp only
  rw [removeOwner_table]
  split
  · next h =>
    simp only [Bool.and_eq_true, Bool.not_eq_true'] at h
    obtain ⟨⟨hset, -⟩, hclear⟩ := h
    exact absurd (hset.symm.trans hclear) (by decide)
  · rfl

/-! ### The removal after a revival -/

theorem staleAs_eq_self {b : Bool} {n : StationNo} {es : List Entry} (h : ∀ e ∈ es, e.owner ≠ n) : staleAs b n es = es := by
  rw [staleAs, List.map_congr_left fun e he => if_neg (h e he), List.map_id']

theorem heardEntries_apart (s : State) (n : StationNo) :
    (s.heardEntries n).filter (fun e => decide (e.owner ≠ n)) = s.table.entries.filter (fun e => decide (e.owner ≠ n)) := by
  unfold State.heardEntries
  split
  · exact filter_staleAs false n _ (fun e he => of_decide_eq_true he) (fun _ _ => rfl) _
  · rfl

theorem owners_heardEntries (s : State) (n : StationNo) :
    (∀ e ∈ s.heardEntries n, e.owner ≠ n) ↔ ∀ e ∈ s.table.entries, e.owner ≠ n := by
  have howners (es : List Entry) : (∀ e ∈ es, e.owner ≠ n) ↔ ∀ c ∈ es.map Entry.condition, c.owner ≠ n := by
    rw [List.forall_mem_map]
    rfl
  rw [howners, howners, heardEntries_conditions]

/-- A JOIN or a restart leaves the table without its source (R47, R48), whether or not the Roster revives it first. -/
theorem removeOwner_heard (s : State) (n : StationNo) (ns : List Notice) :
    (removeOwner s.me n ⟨{ s.table with entries := s.heardEntries n }, ns⟩).table = s.withoutOwner n := by
  have hsame : (s.heardEntries n).filter (fun e => decide (e.owner ≠ n)) = s.heardEntries n ↔
      s.table.entries.filter (fun e => decide (e.owner ≠ n)) = s.table.entries := by
    simp only [List.filter_eq_self, decide_eq_true_eq]
    exact owners_heardEntries s n
  have hstays : flagsStay s.me (s.heardEntries n) (s.table.entries.filter (fun e => decide (e.owner ≠ n))) =
      flagsStay s.me s.table.entries (s.table.entries.filter (fun e => decide (e.owner ≠ n))) :=
    decide_eq_decide.mpr (or_congr (by rw [← hsame, heardEntries_apart]) Iff.rfl)
  rw [removeOwner_table]
  dsimp only
  rw [heardEntries_apart, hstays]
  rfl

theorem overflowLaw_withoutOwner {s : State} (n : StationNo) (h : overflowLaw s.me s.table) : overflowLaw s.me (s.withoutOwner n) := by
  rw [← removeOwner_heard s n []]
  exact (tableKeeps_overflowLaw s.me).removeOwner n ⟨_, []⟩ (overflowLaw_heard n h)

/-! ### Entries and slots after the looks -/

/-- Where a command's table holds no condition of another station, nor does it after the looks (R12, R17). -/
theorem State.leavesTable.none_of {s t : State} {u : AlarmTable} {n : StationNo} (h : s.leavesTable u t) (hne : s.me ≠ some n)
    (hentries : ∀ e ∈ u.entries, e.owner ≠ n) (hslots : ∀ (g : GroupNo) (c : Condition), u.slots[g] = some c → c.owner ≠ n) :
    (∀ e ∈ t.table.entries, e.owner ≠ n) ∧ ∀ (g : GroupNo) (c : Condition), t.table.slots[g] = some c → c.owner ≠ n := by
  obtain ⟨-, hfilter, hslots', -, -, -⟩ := h
  refine ⟨?_, fun g c hc => hslots g c (hslots' g c hc)⟩
  rintro e he rfl
  have hin : e ∈ u.entries.filter (fun e => s.apartFromHealth e.condition) :=
    hfilter ▸ List.mem_filter.mpr ⟨he, apartFromHealth_eq_true.mpr fun n hn hc => hne (hn.trans (congrArg some (congrArg Condition.owner hc).symm))⟩
  exact hentries e (List.mem_of_mem_filter hin) rfl

theorem withoutOwner_none (s : State) (n : StationNo) :
    (∀ e ∈ (s.withoutOwner n).entries, e.owner ≠ n) ∧
      ∀ (g : GroupNo) (c : Condition), (s.withoutOwner n).slots[g] = some c → c.owner ≠ n := by
  refine ⟨fun e he => ?_, fun g c hc => ?_⟩
  · simpa using List.of_mem_filter (show e ∈ s.table.entries.filter (fun e => decide (e.owner ≠ n)) from he)
  · rw [show (s.withoutOwner n).slots = s.table.slots.map (slotApartFrom n) from rfl, slots_map_get] at hc
    exact owner_ne_of_slotApartFrom hc

/-! ### JOIN -/

theorem requestDump_of_not {s : State} (h : s.lanesTake = false) : requestDump s = s := by
  rw [requestDump, h]
  rfl

theorem marks_requestDump (s : State) : (requestDump s).marks = s.marks := marks_congr (requestDump_control s) (requestDump_lanesOpen s)

/-- A station that answers a JOIN is one whose lanes take requests (R127, R99). -/
theorem lanesTake_of_answersJoin {s : State} (ha : s.active = true) (h : s.answersJoin = true) : s.lanesTake = true := by
  unfold State.answersJoin at h
  rw [State.lanesTake, ha]
  split at h
  · next hst => rw [hst]; rfl
  · next hst => rw [hst]; rfl
  · cases h

theorem answersJoin_iff (s : State) :
    s.answersJoin = true ↔ s.control.station = .running ∨ (s.control.station = .joining ∧ s.link.lanesOpen = true) := by
  unfold State.answersJoin
  split
  · next hst => simp [hst]
  · next hst => simp [hst]
  · next hrunning hjoining => exact ⟨nofun, fun h => absurd h (by rintro (hst | ⟨hst, -⟩) <;> [exact hrunning hst; exact hjoining hst])⟩

theorem State.Looked.repairLane {s t : State} (h : s.Looked t) : t.link.lanes.repair = s.link.lanes.repair := by
  obtain ⟨marks, hlink, -⟩ := h.link
  rw [hlink]

/-- A receiver that has taken a JOIN but for its answer (R47, R125). -/
def State.joined (src : StationNo) (b : JoinBody) (s : State) : State := removeJoiner src (s.taken src (recordJoin b))

/-- The answer to a JOIN (R127). -/
def answerJoin (s : State) : State := if s.answersJoin then requestDump s else s

theorem joined_table (src : StationNo) (b : JoinBody) (s : State) : (s.joined src b).table = s.withoutOwner src := by
  rw [State.joined, removeJoiner, takeChange_table, taken_table, taken_me, removeOwner_heard]

theorem joined_repair (src : StationNo) (b : JoinBody) (s : State) : (s.joined src b).repair = s.repair :=
  (takeChange_removeOwner_repair _ _ _).trans (taken_repair ..)

theorem joined_control (src : StationNo) (b : JoinBody) (s : State) : (s.joined src b).control = s.control := by
  simp [State.joined, removeJoiner]

theorem joined_link (src : StationNo) (b : JoinBody) (s : State) :
    (s.joined src b).link = { s.link with receivedGood := s.link.receivedGood.bump, objecting := false } := by
  rw [State.joined, removeJoiner, takeChange_link, taken_link]

theorem joined_settlesOn (src : StationNo) (b : JoinBody) (s : State) : s.settlesOn (s.withoutOwner src) 0 (s.joined src b) := by
  rw [← joined_table src b s]
  have hmarks : (s.joined src b).marks = s.marks := marks_congr (joined_control ..) (by rw [joined_link])
  exact settlesOn_of_table (me_of_control (joined_control ..)) (hmarks ▸ id) (by simp [State.joined, removeJoiner])
    (joined_table src b s ▸ overflowLaw_withoutOwner src)

theorem answerJoin_cases (s : State) :
    (s.answersJoin = true ∧ answerJoin s = requestDump s) ∨ (s.answersJoin = false ∧ answerJoin s = s) := by
  unfold answerJoin
  cases s.answersJoin with
  | true => exact .inl ⟨rfl, rfl⟩
  | false => exact .inr ⟨rfl, rfl⟩

/-- The answer asks for the DUMP mark, and does nothing else. -/
theorem answerJoin_frame (s : State) :
    (answerJoin s).control = s.control ∧ (answerJoin s).engine = s.engine ∧ (answerJoin s).table = s.table ∧
      (answerJoin s).roster = s.roster ∧ (answerJoin s).repair = s.repair ∧ (answerJoin s).monitor = s.monitor ∧
      (answerJoin s).service = s.service ∧ (answerJoin s).pins = s.pins ∧ (answerJoin s).marks = s.marks := by
  obtain ⟨-, heq⟩ | ⟨-, heq⟩ := answerJoin_cases s <;> rw [heq]
  · simp [marks_requestDump]
  · simp

theorem answerJoin_repairLane {s : State} (ha : s.active = true) :
    (s.answersJoin = true → (answerJoin s).link.lanes.repair.any RepairEntry.isDump = true) ∧
      (s.answersJoin = false → (answerJoin s).link.lanes.repair = s.link.lanes.repair) := by
  obtain ⟨hanswers, heq⟩ | ⟨hanswers, heq⟩ := answerJoin_cases s <;> rw [heq, hanswers]
  · exact ⟨fun _ => requestDump_held (lanesTake_of_answersJoin ha hanswers), nofun⟩
  · exact ⟨nofun, fun _ => rfl⟩

/-- Settles O44: the removal of the source, the values recorded, and the DUMP mark where R127 asks for it. -/
theorem joinClearsAndRecordsItsSource : Obligations.JoinClearsAndRecordsItsSource := by
  intro s src b h hme
  obtain ⟨hactive, -, -⟩ := of_receives h
  refine ⟨finish (answerJoin (s.joined src b)),
    congrArg Host.Outcome.next (whenActive_deliver_other (own := fun _ => ownJoin src b) (other := fun _ => receiveJoin src b) h hme), ?_⟩
  obtain ⟨hcontrol, hengine, htable, hroster, hrepair, hmonitor, hservice, hpins, hmarks⟩ := answerJoin_frame (s.joined src b)
  have hleaves : s.leavesTable (s.withoutOwner src) (finish (answerJoin (s.joined src b))) :=
    ((joined_settlesOn src b s).act (me_of_control hcontrol) (hmarks ▸ id) hengine htable).finish.leavesTable (by decide)
  obtain ⟨hentries, hslots⟩ := withoutOwner_none s src
  obtain ⟨hnoEntry, hnoSlot⟩ := hleaves.none_of hme hentries hslots
  have hmember : (finish (answerJoin (s.joined src b))).member src = (s.taken src (recordJoin b)).member src := by
    rw [member_finish]
    exact congrArg (fun r : Roster => r.entries[src.index]) (hroster.trans (takeChange_roster ..))
  have hanswers : (s.joined src b).answersJoin = s.answersJoin := by
    rw [State.answersJoin, State.answersJoin, joined_control, joined_link]
  obtain ⟨hasked, hkept⟩ := answerJoin_repairLane (s := s.joined src b) ((active_of_control (joined_control ..)).trans hactive)
  rw [hanswers, ← (finish_looked _).1.repairLane] at hasked hkept
  rw [joined_link] at hkept
  rw [member_taken_self] at hmember
  refine ⟨hnoEntry, hnoSlot, hleaves, by rw [hmember]; rfl, by rw [hmember]; rfl, by rw [hmember]; rfl,
    fun hst => hasked ((answersJoin_iff s).mpr hst), fun hst => hkept ?_, ?_, ?_, ?_, ?_, ?_⟩
  · exact Bool.eq_false_iff.mpr fun ht => hst ((answersJoin_iff s).mp ht)
  · rw [finish_control, hcontrol, joined_control]
  · rw [finish_repair, hrepair, joined_repair]
  · rw [finish_monitor, hmonitor]; simp [State.joined, removeJoiner]
  · rw [finish_service, hservice]; simp [State.joined, removeJoiner]
  · rw [finish_pins, hpins]; simp [State.joined, removeJoiner]

end Sys2Proof.Machine

/-! PROOFS. A delivered RESYNC_REQUEST: the DUMP mark and the withdrawals (R96, R142, R143). -/

namespace Sys2Proof.Machine

/-! ### Withdrawals (R142) -/

theorem withdrawFrom_dump {o : StationNo} {e : RepairEntry} {again : Bool} (h : e.work = .dump again) : withdrawFrom o e = some e := by
  rw [withdrawFrom, h]

theorem withdrawFrom_request {o : StationNo} {e : RepairEntry} {os : List StationNo} (h : e.work = .request os) :
    withdrawFrom o e =
      if o ∈ os then (if ∀ x ∈ os, x = o then none else some { e with work := .request (os.filter (fun x => decide (x ≠ o))) })
      else some e := by
  have hempty : (os.filter (fun x => decide (x ≠ o))).isEmpty = decide (∀ x ∈ os, x = o) := by
    rw [Bool.eq_iff_iff, List.isEmpty_iff, List.filter_eq_nil_iff, decide_eq_true_eq]
    simp
  have hfilter : os.filter (· != o) = os.filter (fun x => decide (x ≠ o)) := List.filter_congr fun x _ => by
    by_cases hx : x = o <;> simp [hx]
  rw [withdrawFrom, h]
  simp only [List.contains_iff_mem, hfilter, hempty, decide_eq_true_eq]

theorem isDump_eq_true {e : RepairEntry} (h : e.isDump = true) : ∃ again, e.work = .dump again := by
  unfold RepairEntry.isDump at h
  split at h
  · next again hw => exact ⟨again, hw⟩
  · cases h

theorem isDump_of_work {e : RepairEntry} {again : Bool} (h : e.work = .dump again) : e.isDump = true := by
  rw [RepairEntry.isDump, h]

theorem isDump_of_request {e : RepairEntry} {os : List StationNo} (h : e.work = .request os) : e.isDump = false := by
  rw [RepairEntry.isDump, h]

/-- No request of a lane names the owner. -/
def unnamed (o : StationNo) (lane : List RepairEntry) : Prop := ∀ e ∈ lane, ∀ os, e.work = .request os → o ∉ os

theorem unnamed_withdrawIn_self (o : StationNo) (lane : List RepairEntry) : unnamed o (withdrawIn false o lane) := by
  intro e he os hw
  rw [withdrawIn_waiting, List.mem_filterMap] at he
  obtain ⟨x, -, hx⟩ := he
  exact withdrawFrom_names o x e os hx hw

theorem unnamed_withdrawIn {o : StationNo} (p : StationNo) {lane : List RepairEntry} (h : unnamed o lane) :
    unnamed o (withdrawIn false p lane) := by
  intro e he os hw
  rw [withdrawIn_waiting, List.mem_filterMap] at he
  obtain ⟨x, hx, hfrom⟩ := he
  cases hwork : x.work with
  | dump again =>
    rw [withdrawFrom_dump hwork] at hfrom
    cases hfrom
    rw [hwork] at hw
    cases hw
  | request names =>
    have hnot := h x hx names hwork
    rw [withdrawFrom_request hwork] at hfrom
    split at hfrom
    · split at hfrom
      · cases hfrom
      · cases hfrom
        cases hw
        exact fun hin => hnot (List.mem_of_mem_filter hin)
    · cases hfrom
      rw [hwork] at hw
      cases hw
      exact hnot

theorem dumps_withdrawIn (o : StationNo) (lane : List RepairEntry) :
    (withdrawIn false o lane).filter RepairEntry.isDump = lane.filter RepairEntry.isDump := by
  rw [withdrawIn_waiting]
  induction lane with
  | nil => rfl
  | cons e rest ih =>
    rw [List.filterMap_cons, List.filter_cons]
    cases hwork : e.work with
    | dump again => rw [withdrawFrom_dump hwork, isDump_of_work hwork, if_pos rfl, List.filter_cons, isDump_of_work hwork, if_pos rfl, ih]
    | request os =>
      rw [isDump_of_request hwork, withdrawFrom_request hwork]
      split
      · next hnone => exact ih
      · next x hsome =>
        have hx : x.isDump = false := by
          split at hsome
          · split at hsome
            · cases hsome
            · cases hsome
              rfl
          · cases hsome
            exact isDump_of_request hwork
        rw [List.filter_cons, hx]
        exact ih

/-- The lane after the withdrawal of each owner of a list. -/
def withdrawEach (onAir : Bool) (owners : List StationNo) (lane : List RepairEntry) : List RepairEntry :=
  owners.foldl (fun lane o => withdrawIn onAir o lane) lane

theorem withdrawFold_eq (owners : List StationNo) (s : State) :
    owners.foldl (fun s n => withdrawOwner n s) s =
      s.withLanes { s.link.lanes with repair := withdrawEach (s.onAir .repair) owners s.link.lanes.repair } := by
  induction owners generalizing s with
  | nil => rfl
  | cons o rest ih =>
    rw [List.foldl_cons, ih]
    rfl

theorem unnamed_withdrawEach {owners : List StationNo} {lane : List RepairEntry} {o : StationNo} (h : o ∈ owners ∨ unnamed o lane) :
    unnamed o (withdrawEach false owners lane) := by
  induction owners generalizing lane with
  | nil => exact h.resolve_left (List.not_mem_nil)
  | cons p rest ih =>
    refine ih ?_
    obtain hin | hfree := h
    · obtain rfl | hin := List.mem_cons.mp hin
      · exact .inr (unnamed_withdrawIn_self o lane)
      · exact .inl hin
    · exact .inr (unnamed_withdrawIn p hfree)

theorem dumps_withdrawEach (owners : List StationNo) (lane : List RepairEntry) :
    (withdrawEach false owners lane).filter RepairEntry.isDump = lane.filter RepairEntry.isDump := by
  induction owners generalizing lane with
  | nil => rfl
  | cons o rest ih => exact (ih _).trans (dumps_withdrawIn o lane)

theorem any_isDump_iff (lane : List RepairEntry) : lane.any RepairEntry.isDump = true ↔ lane.filter RepairEntry.isDump ≠ [] := by
  rw [List.any_eq_true, ne_eq, List.filter_eq_nil_iff]
  push Not
  rfl

/-! ### RESYNC_REQUEST (R143) -/

/-- The answer of a listed station (R143). -/
def answerResync (owners : List StationNo) (s : State) : State := if s.me.any owners.contains then requestDump s else s

theorem any_contains_iff (me : Option StationNo) (owners : List StationNo) :
    me.any owners.contains = true ↔ ∃ n, me = some n ∧ n ∈ owners := by
  simp only [Option.any_eq_true, List.contains_iff_mem]

theorem answerResync_frame (owners : List StationNo) (s : State) :
    (answerResync owners s).control = s.control ∧ (answerResync owners s).repair = s.repair ∧
      (answerResync owners s).monitor = s.monitor ∧ (answerResync owners s).service = s.service ∧
      (answerResync owners s).pins = s.pins ∧ (answerResync owners s).link.sending = s.link.sending := by
  have hsending : (requestDump s).link.sending = s.link.sending := by
    unfold requestDump
    split <;> rfl
  unfold answerResync
  split
  · simp [hsending]
  · simp

/-- The DUMP mark of a station that has nothing on the medium, after a request for it (R96). -/
theorem dumps_requestDump {s : State} (htake : s.lanesTake = true) (hair : s.onAir .repair = false) :
    (requestDump s).link.lanes.repair.filter RepairEntry.isDump =
      if s.link.lanes.repair.any RepairEntry.isDump then s.link.lanes.repair.filter RepairEntry.isDump
      else [{ work := .dump false, attempt := 0, failed := 0 }] := by
  rw [requestDump, if_pos htake, hair]
  split
  · next hheld =>
    exact congrArg (List.filter RepairEntry.isDump) (requestDumpMark_waiting false s.link.lanes.repair hheld nofun)
  · next hnone =>
    have hno : s.link.lanes.repair.any RepairEntry.isDump = false := by simpa using hnone
    have hlane := requestDumpMark_unmarked false s.link.lanes.repair hno
    have hempty : s.link.lanes.repair.filter RepairEntry.isDump = [] := by simpa using hno
    refine (congrArg (List.filter RepairEntry.isDump) hlane).trans ?_
    rw [List.filter_append, hempty]
    rfl

theorem withdrawIn_request {o : StationNo} {e : RepairEntry} {rest : List RepairEntry} {os : List StationNo} (h : e.work = .request os) :
    (o ∉ os → withdrawIn false o (e :: rest) = e :: withdrawIn false o rest) ∧
      (o ∈ os → (∀ x ∈ os, x = o) → withdrawIn false o (e :: rest) = withdrawIn false o rest) ∧
      (o ∈ os → (∃ x ∈ os, x ≠ o) → withdrawIn false o (e :: rest) =
        { e with work := .request (os.filter (fun x => decide (x ≠ o))) } :: withdrawIn false o rest) := by
  have hfrom := withdrawFrom_request (o := o) h
  simp only [withdrawIn_waiting, List.filterMap_cons]
  refine ⟨fun hnot => ?_, fun hin hall => ?_, fun hin hsome => ?_⟩
  · rw [hfrom, if_neg hnot]
  · rw [hfrom, if_pos hin, if_pos hall]
  · obtain ⟨x, hx, hne⟩ := hsome
    rw [hfrom, if_pos hin, if_neg fun hall => hne (hall x hx)]

/-- The request for the DUMP mark, case by case (R96). -/
theorem requestDump_cases (s : State) :
    (s.lanesTake = true → s.link.lanes.repair.any RepairEntry.isDump = false →
      requestDump s =
        s.withLanes { s.link.lanes with repair := s.link.lanes.repair ++ [{ work := .dump false, attempt := 0, failed := 0 }] }) ∧
    (s.lanesTake = true → ∀ a e rest, s.link.sending = some a → a.lane = .repair → s.link.lanes.repair = e :: rest →
      e.isDump = true → requestDump s = s.withLanes { s.link.lanes with repair := { e with work := .dump true } :: rest }) ∧
    (s.link.lanes.repair.any RepairEntry.isDump = true →
      (¬∃ a e rest, s.link.sending = some a ∧ a.lane = .repair ∧ s.link.lanes.repair = e :: rest ∧ e.isDump = true) →
      requestDump s = s) ∧
    (s.lanesTake = false → requestDump s = s) := by
  refine ⟨fun htake hnone => ?_, fun htake a e rest hsend hlane hrepair hdump => ?_, fun hheld hwait => ?_, requestDump_of_not⟩
  · rw [requestDump, if_pos htake, requestDumpMark_unmarked _ _ hnone]
    rfl
  · rw [requestDump, if_pos htake, (onAir_iff s .repair).mpr ⟨a, hsend, hlane⟩, hrepair, requestDumpMark_sent e rest hdump]
  · cases htake : s.lanesTake with
    | false => exact requestDump_of_not htake
    | true =>
      rw [requestDump, if_pos htake, requestDumpMark_waiting _ _ hheld fun e rest hair hrepair => ?_]
      · rfl
      · obtain ⟨a, hsend, hlane⟩ := (onAir_iff s .repair).mp hair
        exact Bool.eq_false_iff.mpr fun hdump => hwait ⟨a, e, rest, hsend, hlane, hrepair, hdump⟩

/-- Settles O41: the answer of a listed station, the withdrawals in turn, and both operations on the lane alone. -/
theorem resyncRequestMarksAndWithdraws : Obligations.ResyncRequestMarksAndWithdraws := by
  refine ⟨fun s src owners h hme => ?_, requestDump_cases, fun o e rest => ⟨fun onMedium => ?_, withdrawIn_sent o e rest, fun again hw => ?_,
    fun os hw => withdrawIn_request hw⟩⟩
  · obtain ⟨hactive, -, -⟩ := of_receives h
    refine ⟨_, congrArg Host.Outcome.next (whenActive_deliver_other (own := fun _ => id) (other := fun _ => receiveResync src owners) h hme), ?_⟩
    obtain ⟨hcontrol, hrepair, hmonitor, hservice, hpins, hsending⟩ := answerResync_frame owners (s.taken src id)
    have hair : (s.taken src id).onAir .repair = false := by
      rw [State.onAir, taken_link]
      exact onAir_of_receives s .repair h
    have hair' : (answerResync owners (s.taken src id)).onAir .repair = false := by rwa [State.onAir, hsending]
    have hfold : receiveResync src owners s.counted =
        (answerResync owners (s.taken src id)).withLanes
          { (answerResync owners (s.taken src id)).link.lanes with
            repair := withdrawEach false owners (answerResync owners (s.taken src id)).link.lanes.repair } :=
      (withdrawFold_eq owners (answerResync owners (s.taken src id))).trans (by rw [hair'])
    have hlane : (finish (receiveResync src owners s.counted)).link.lanes.repair =
        withdrawEach false owners (answerResync owners (s.taken src id)).link.lanes.repair := by
      rw [(finish_looked _).1.repairLane, hfold]
      rfl
    have hdumps := dumps_withdrawEach owners (answerResync owners (s.taken src id)).link.lanes.repair
    rw [← hlane] at hdumps
    have htakes : (s.taken src id).lanesTake = !s.control.station.silent := by
      rw [State.lanesTake, active_of_control (taken_control ..), hactive, taken_control, Bool.true_and]
    have hbefore : (s.taken src id).link.lanes.repair = s.link.lanes.repair := by rw [taken_link]
    have hunasked (hnot : s.control.station.silent = true ∨ ∀ n, s.me = some n → n ∉ owners) :
        answerResync owners (s.taken src id) = s.taken src id := by
      rw [answerResync, taken_me]
      split
      · next hlisted =>
        obtain ⟨n, hn, hin⟩ := (any_contains_iff _ _).mp hlisted
        refine requestDump_of_not ?_
        rw [htakes, hnot.resolve_right fun hno => hno n hn hin]
        rfl
      · rfl
    refine ⟨fun n hn hin hopen => ?_, fun hnot => ?_, fun e he os hw o ho => ?_, fun n => ?_, ?_, ?_, ?_, ?_⟩
    · have hanswer : answerResync owners (s.taken src id) = requestDump (s.taken src id) := by
        rw [answerResync, taken_me, if_pos ((any_contains_iff _ _).mpr ⟨n, hn, hin⟩)]
      rw [hanswer, dumps_requestDump (by rw [htakes, hopen]; rfl) hair, hbefore] at hdumps
      refine ⟨?_, hdumps⟩
      rw [any_isDump_iff, hdumps]
      split
      · next hheld => exact (any_isDump_iff _).mp hheld
      · exact List.cons_ne_nil _ _
    · rw [hunasked hnot, hbefore] at hdumps
      exact hdumps
    · rw [hlane] at he
      exact unnamed_withdrawEach (.inl ho) e he os hw
    · rw [State.repairOf, finish_repair, hfold, withLanes_eq, withLink_repair, hrepair, taken_repair]
      rfl
    · rw [finish_control, hfold, withLanes_eq, withLink_control, hcontrol, taken_control]
    · rw [finish_monitor, hfold, withLanes_eq, withLink_monitor, hmonitor, taken_monitor]
    · rw [finish_service, hfold, withLanes_eq, withLink_service, hservice, taken_service]
    · rw [finish_pins, hfold, withLanes_eq, withLink_pins, hpins, taken_pins]
  · cases onMedium <;> rfl
  · rw [withdrawIn_waiting, List.filterMap_cons, withdrawFrom_dump hw, ← withdrawIn_waiting]

end Sys2Proof.Machine

/-! PROOFS. A delivered OPERATOR frame (R9, R70, R71). -/

namespace Sys2Proof.Machine

theorem anyCause_congr {s t : State} (hann : t.ann.readback = s.ann.readback) (hover : t.table.tableOverflow = s.table.tableOverflow)
    (hlink : t.link.degraded = s.link.degraded) (hrepair : t.repair = s.repair) : t.anyCause = s.anyCause := by
  simp only [State.anyCause, State.lampFault, State.repairFailed, hann, hover, hlink, hrepair]

/-- A frame that another station's Roster takes moves no cause (R17). -/
theorem taken_anyCause (src : StationNo) (f : RosterEntry → RosterEntry) (s : State) : (s.taken src f).anyCause = s.anyCause := by
  obtain ⟨horn, hann⟩ := revive_ann src s.counted
  have hann' : (s.taken src f).ann = { s.counted.ann with horn := horn } := hann
  exact anyCause_congr (by rw [hann']; rfl) (by rw [taken_table]) (by rw [taken_link]) (taken_repair ..)

/-- Where the causes are settled the end of a command leaves the engine. -/
theorem finish_engine_of_settled {s : State} (h : s.anyCause = s.engine.healthLevel) : (finish s).engine = s.engine := by
  rw [finish, settle_engine, healthSync_of_eq s h]

theorem takeItems_of_active {a : Action} {items : List Item} {s : State} (h : s.active = true) :
    takeItems a items s = items.foldl (takeItem a) s := if_pos h

theorem takeItems_frame (a : Action) (items : List Item) (s : State) :
    (takeItems a items s).control = s.control ∧ (takeItems a items s).monitor = s.monitor ∧
      (takeItems a items s).service = s.service ∧ (takeItems a items s).pins = s.pins := by simp

/-- Settles O40: the target takes the items in order, and the causes that stand leave point 16 to them. -/
theorem operatorItemsTakenByTheTarget : Obligations.OperatorItemsTakenByTheTarget := by
  intro s src b h hme
  obtain ⟨hactive, -, -⟩ := of_receives h
  refine ⟨_, congrArg Host.Outcome.next (whenActive_deliver_other (own := fun _ => id) (other := fun _ => receiveOperator src b) h hme), ?_⟩
  have hactive' : (s.taken src id).active = true := (active_of_control (taken_control ..)).trans hactive
  have hcause : s.anyCause = s.engine.healthLevel → (s.taken src id).anyCause = (s.taken src id).engine.healthLevel := by
    rw [taken_anyCause, taken_engine]
    exact id
  have hlooked := (finish_looked (receiveOperator src b s.counted)).1
  by_cases htarget : s.me = some b.target
  · have hreceive : receiveOperator src b s.counted = takeItems b.action b.items (s.taken src id) := if_pos ((taken_me ..).trans htarget)
    have hengine : (receiveOperator src b s.counted).engine = (b.items.foldl (takeItem b.action) s).engine := by
      rw [hreceive, takeItems_of_active hactive']
      exact itemsFold_engine_congr (taken_control ..) (taken_engine ..) b.action b.items
    obtain ⟨hcontrol, hmonitor, hservice, hpins⟩ := takeItems_frame b.action b.items (s.taken src id)
    rw [← hreceive] at hcontrol hmonitor hservice hpins
    refine ⟨fun _ p hp => (hlooked.points p hp).trans (point_of_engine hengine p), fun _ => hlooked.refused.trans (congrArg _ hengine),
      fun hne => absurd htarget hne, fun hsettled hlaw => ⟨fun _ => ?_, fun hne => absurd htarget hne⟩,
      hlooked.control.trans (hcontrol.trans (taken_control ..)), hlooked.monitor.trans (hmonitor.trans (taken_monitor ..)),
      hlooked.service.trans (hservice.trans (taken_service ..)), hlooked.pins.trans (hpins.trans (taken_pins ..))⟩
    have hown : (s.taken src id).ownLawful := by
      rw [State.ownLawful, taken_me, taken_table]
      exact overflowLaw_heard src hlaw
    obtain ⟨-, ⟨hany, hlevel⟩, -⟩ := takeItems_causesKept b.action b.items hown
    rw [← hreceive] at hany hlevel
    exact (finish_engine_of_settled (hany.trans ((hcause hsettled).trans hlevel.symm))).trans hengine
  · have hreceive : receiveOperator src b s.counted = s.taken src id := if_neg fun hown => htarget ((taken_me src id s).symm.trans hown)
    rw [hreceive] at hlooked ⊢
    refine ⟨fun hown => absurd hown htarget, fun hown => absurd hown htarget,
      fun _ => ⟨hlooked.refused.trans (congrArg _ (taken_engine ..)), fun p hp => (hlooked.points p hp).trans (point_of_engine (taken_engine ..) p)⟩,
      fun hsettled _ => ⟨fun hown => absurd hown htarget, fun _ => (finish_engine_of_settled (hcause hsettled)).trans (taken_engine ..)⟩,
      hlooked.control.trans (taken_control ..), hlooked.monitor.trans (taken_monitor ..), hlooked.service.trans (taken_service ..),
      hlooked.pins.trans (taken_pins ..)⟩

end Sys2Proof.Machine

/-! PROOFS. A delivered REPORT and the table (R37 to R40, R54, R55, R149). -/

namespace Sys2Proof.Machine

/-! ### The flags under a look of the monitor (R55) -/

/-- The flags of a table are as before, or both clear where shared occupancy is 83 or less. -/
def AlarmTable.flagsKeptOrFreed (me : Option StationNo) (t u : AlarmTable) : Prop :=
  t.sameFlags u ∨ (occupancy me t.entries ≤ 83 ∧ u.overflow = false ∧ u.tableOverflow = false)

/-- Own contents take no shared place, so they clear the flags only where 83 or fewer are taken, lawful or not (R37, R55). -/
theorem applyContents_own_flags {n : StationNo} (r : PointReport) (ch : Change) :
    ch.table.flagsKeptOrFreed (some n) (applyContents (some n) false n r ch).table := by
  unfold applyContents
  split
  · cases hf : ch.table.find ⟨n, r.point⟩ with
    | none => rw [removeEntry_of_none hf]; exact .inl ⟨rfl, rfl⟩
    | some e =>
      have hshared : occupancy (some n) (ch.table.entries.filter (fun x => x.condition != ⟨n, r.point⟩)) =
          occupancy (some n) ch.table.entries := by
        rw [← occupancy_apartFrom n ch.table,
          ← occupancy_apartFrom n { ch.table with entries := ch.table.entries.filter (fun e => e.condition != ⟨n, r.point⟩) }]
        simp only [AlarmTable.apartFrom, filter_apartFrom_removed]
      rw [removeEntry_table_of_find hf, hshared]
      by_cases hfree : overflowClearsAt < occupancy (some n) ch.table.entries
      · exact .inl ⟨by simp [hfree], by simp [hfree]⟩
      · exact .inr ⟨Nat.le_of_not_lt hfree, by simp [hfree], by simp [hfree]⟩
  · next st _ =>
    split
    · unfold updateEntry
      split <;> exact .inl ⟨rfl, rfl⟩
    · obtain ⟨⟨hother, _⟩, _⟩ | ⟨_, heq⟩ := createEntry_cases (some n) false n r st ch
      · exact absurd rfl hother
      · rw [heq]
        exact .inl ⟨rfl, rfl⟩

theorem handOver_flags (p : PointNo) (s : State) : s.table.flagsKeptOrFreed s.me (handOver p s).table := by
  unfold handOver
  split
  · exact .inl ⟨rfl, rfl⟩
  · cases hme : s.me with
    | none =>
      unfold localDeliver
      rw [hme]
      exact .inl ⟨rfl, rfl⟩
    | some n =>
      rw [localDeliver_of_me hme, takeChange_table, hme]
      exact applyContents_own_flags (s.contents p) ⟨s.table, []⟩

theorem finish_flags (s : State) : s.table.flagsKeptOrFreed s.me (finish s).table := by
  rw [show (finish s).table = (healthSync s).table from settle_table _]
  obtain ⟨x, heq | heq⟩ := healthSync_cases s <;> rw [heq]
  · exact .inl ⟨rfl, rfl⟩
  · exact handOver_flags 16 (s.withEngine x)

/-! ### Entries after a revival -/

theorem find_staleAs (b : Bool) (n : StationNo) (t : AlarmTable) (c : Condition) :
    ({ t with entries := staleAs b n t.entries } : AlarmTable).find c =
      (t.find c).map (fun e => if e.owner = n then { e with stale := b } else e) := by
  unfold AlarmTable.find staleAs
  rw [List.find?_map]
  congr 2
  funext e
  simp only [Function.comp_apply]
  split <;> rfl

theorem find_heard {s : State} {n : StationNo} {c : Condition} {e : Entry} (h : s.table.find c = some e) :
    ∃ b, ({ s.table with entries := s.heardEntries n } : AlarmTable).find c = some { e with stale := b } := by
  unfold State.heardEntries
  split
  · rw [find_staleAs, h, Option.map_some]
    split
    · exact ⟨_, rfl⟩
    · exact ⟨e.stale, rfl⟩
  · exact ⟨e.stale, h⟩

theorem find_heard_none {s : State} (n : StationNo) {c : Condition} (h : s.table.find c = none) :
    ({ s.table with entries := s.heardEntries n } : AlarmTable).find c = none := by
  unfold State.heardEntries
  split
  · rw [find_staleAs, h, Option.map_none]
  · exact h

theorem occupancy_heard (s : State) (n : StationNo) : occupancy s.me (s.heardEntries n) = occupancy s.me s.table.entries :=
  occupancy_congr (heardEntries_conditions s n)

/-! ### The table after a REPORT, case by case (R37 to R40, R54) -/

/-- The table after a REPORT of another station, before the monitor's look. -/
def State.reportTable (s : State) (src : StationNo) (b : PointReport) : AlarmTable :=
  (applyContents s.me s.givesSlots src b ⟨{ s.table with entries := s.heardEntries src }, []⟩).table

section
variable {s : State} {src : StationNo} {b : PointReport}

theorem reportTable_removed (hn : b.state = .normal) (hf : (s.table.find ⟨src, b.point⟩).isSome = true) :
    s.reportTable src b =
      { s.table with
        entries := (s.heardEntries src).filter (fun e => decide (e.condition ≠ ⟨src, b.point⟩)),
        slots := s.table.slots.map (fun h => if h = some ⟨src, b.point⟩ then none else h),
        overflow := s.table.overflow &&
          decide (84 ≤ occupancy s.me ((s.heardEntries src).filter (fun e => decide (e.condition ≠ ⟨src, b.point⟩)))),
        tableOverflow := s.table.tableOverflow &&
          decide (84 ≤ occupancy s.me ((s.heardEntries src).filter (fun e => decide (e.condition ≠ ⟨src, b.point⟩)))) } := by
  obtain ⟨e, he⟩ := Option.isSome_iff_exists.mp hf
  obtain ⟨stale, hheard⟩ := find_heard (n := src) he
  have hfilter : (s.heardEntries src).filter (fun x => x.condition != ⟨src, b.point⟩) =
      (s.heardEntries src).filter (fun e => decide (e.condition ≠ ⟨src, b.point⟩)) :=
    List.filter_congr fun x _ => by by_cases hx : x.condition = ⟨src, b.point⟩ <;> simp [hx]
  rw [State.reportTable, applyContents_of_normal _ (by rw [hn]; rfl), removeEntry_table_of_find hheard]
  dsimp only
  rw [hfilter]
  rfl

theorem reportTable_absent (hn : b.state = .normal) (hf : s.table.find ⟨src, b.point⟩ = none) :
    s.reportTable src b = { s.table with entries := s.heardEntries src } := by
  rw [State.reportTable, applyContents_of_normal _ (by rw [hn]; rfl), removeEntry_of_none (find_heard_none src hf)]

theorem reportTable_same {st : EntryState} {e : Entry} (hs : entryState? b.state = some st) (hf : s.table.find ⟨src, b.point⟩ = some e)
    (hstate : e.state = st) (hrevision : e.revision = b.revision) :
    s.reportTable src b = { s.table with entries := s.heardEntries src } := by
  obtain ⟨stale, hheard⟩ := find_heard (n := src) hf
  rw [State.reportTable, applyContents_of_held hs hheard, updateEntry, if_pos ⟨hstate, hrevision⟩]

/-- The entry that a REPORT's contents give (R38, R39). -/
theorem take_eq_newEntry {x : Entry} (st : EntryState) (h : x.condition = ⟨src, b.point⟩) : x.take b st = newEntry src b st := by
  have howner : x.owner = src := congrArg Condition.owner h
  have hpoint : x.point = b.point := congrArg Condition.point h
  rw [Entry.take, newEntry, howner, hpoint]

theorem reportTable_rewritten {st : EntryState} {e : Entry} (hs : entryState? b.state = some st)
    (hf : s.table.find ⟨src, b.point⟩ = some e) (hmoved : e.state ≠ st ∨ e.revision ≠ b.revision) :
    s.reportTable src b =
      { s.table with
        entries := (s.heardEntries src).map (fun x => if x.condition = ⟨src, b.point⟩ then newEntry src b st else x),
        slots :=
          if b.group ≠ e.group ∧ s.table.slots[e.group] = some ⟨src, b.point⟩ then s.table.slots.set e.group none else s.table.slots } := by
  obtain ⟨stale, hheard⟩ := find_heard (n := src) hf
  have hcond := condition_of_find hheard
  have hnot : ¬(e.state = st ∧ e.revision = b.revision) := fun h => hmoved.elim (fun hne => hne h.1) (fun hne => hne h.2)
  have hentries : (s.heardEntries src).map (fun x => if x.condition = ⟨src, b.point⟩ then x.take b st else x) =
      (s.heardEntries src).map (fun x => if x.condition = ⟨src, b.point⟩ then newEntry src b st else x) := by
    refine List.map_congr_left fun x _ => ?_
    split
    · next h => exact take_eq_newEntry st h
    · rfl
  rw [State.reportTable, applyContents_of_held hs hheard, updateEntry, if_neg hnot]
  refine (AlarmTable.mk.injEq ..).mpr ⟨?_, ?_, rfl, rfl, rfl⟩
  · rw [hcond]
    exact hentries
  · rw [hcond]
    simp only [decide_eq_true_eq]
    rfl

theorem reportTable_created {st : EntryState} (hs : entryState? b.state = some st) (hf : s.table.find ⟨src, b.point⟩ = none)
    (hroom : occupancy s.me s.table.entries < 111) :
    s.reportTable src b =
      { s.table with
        entries := s.heardEntries src ++ [newEntry src b st],
        slots :=
          if s.control.station = .running ∧ b.foEligible = true ∧ s.table.slots[b.group] = none then
            s.table.slots.set b.group (some ⟨src, b.point⟩)
          else s.table.slots } := by
  rw [State.reportTable, applyContents_of_new hs (find_heard_none src hf)]
  obtain ⟨⟨_, hfull⟩, _⟩ | ⟨_, heq⟩ :=
    createEntry_cases s.me s.givesSlots src b st ⟨{ s.table with entries := s.heardEntries src }, []⟩
  · rw [occupancy_heard] at hfull
    exact absurd hroom (Nat.not_lt.mpr hfull)
  · rw [heq]
    simp only [State.givesSlots, beq_iff_eq]

theorem reportTable_dropped {st : EntryState} (hme : s.me ≠ some src) (hs : entryState? b.state = some st)
    (hf : s.table.find ⟨src, b.point⟩ = none) (hfull : 111 ≤ occupancy s.me s.table.entries) :
    s.reportTable src b =
      { s.table with
        entries := s.heardEntries src, overflow := true, tableOverflow := true, dropped := s.table.dropped.bump } := by
  rw [State.reportTable, applyContents_of_new hs (find_heard_none src hf)]
  obtain ⟨_, heq⟩ | ⟨hroom, _⟩ :=
    createEntry_cases s.me s.givesSlots src b st ⟨{ s.table with entries := s.heardEntries src }, []⟩
  · rw [heq]
    rfl
  · exact absurd ⟨Ne.symm hme, (occupancy_heard s src).ge.trans' hfull⟩ hroom

/-- A REPORT that leaves TABLE_OVERFLOW set afresh has found the shared places taken (R54). -/
theorem reportTable_tableOverflow (h : (s.reportTable src b).tableOverflow = true) (hclear : s.table.tableOverflow = false) :
    84 ≤ occupancy s.me (s.reportTable src b).entries := by
  unfold State.reportTable at h ⊢
  unfold applyContents at h ⊢
  split at h
  · obtain ⟨-, htable, -⟩ := removeEntry_flags s.me ⟨src, b.point⟩ ⟨{ s.table with entries := s.heardEntries src }, []⟩
    rw [htable, hclear] at h
    cases h
  · next st _ =>
    split at h
    · unfold updateEntry at h
      split at h <;> exact absurd (hclear.symm.trans h) (by decide)
    · obtain ⟨⟨-, hfull⟩, heq⟩ | ⟨-, heq⟩ :=
        createEntry_cases s.me s.givesSlots src b st ⟨{ s.table with entries := s.heardEntries src }, []⟩
      · rw [heq]
        have hplaces : 84 ≤ sharedPlaces := by decide
        exact hplaces.trans hfull
      · rw [heq] at h
        exact absurd (hclear.symm.trans h) (by decide)

/-- The slots a REPORT leaves are those before, but for the one its new entry takes (R40). -/
theorem reportTable_slot {g : GroupNo} {k : Condition} (h : (s.reportTable src b).slots[g] = some k) :
    s.table.slots[g] = some k ∨
      (k = ⟨src, b.point⟩ ∧ g = b.group ∧ s.control.station = .running ∧ b.foEligible = true ∧ s.table.slots[g] = none ∧
        b.state ≠ .normal ∧ s.table.find k = none) := by
  cases hs : entryState? b.state with
  | none =>
    have hn : b.state = .normal := by
      cases hstate : b.state <;> rw [hstate] at hs
      all_goals cases hs
    cases hf : s.table.find ⟨src, b.point⟩ with
    | none => exact .inl (by rwa [reportTable_absent hn hf] at h)
    | some e =>
      rw [reportTable_removed hn (by rw [hf]; rfl), slots_map_get] at h
      split at h
      · cases h
      · exact .inl h
  | some st =>
    have hn : b.state ≠ .normal := fun hn => by simp [hn, entryState?] at hs
    cases hf : s.table.find ⟨src, b.point⟩ with
    | some e =>
      by_cases hsame : e.state = st ∧ e.revision = b.revision
      · exact .inl (by rwa [reportTable_same hs hf hsame.1 hsame.2] at h)
      · rw [reportTable_rewritten hs hf (not_and_or.mp hsame)] at h
        dsimp only at h
        split at h
        · rw [slots_set_get] at h
          split at h
          · cases h
          · exact .inl h
        · exact .inl h
    | none =>
      rw [State.reportTable, applyContents_of_new hs (find_heard_none src hf)] at h
      obtain ⟨-, heq⟩ | ⟨-, heq⟩ :=
        createEntry_cases s.me s.givesSlots src b st ⟨{ s.table with entries := s.heardEntries src }, []⟩
      · rw [heq] at h
        exact .inl h
      · rw [heq] at h
        dsimp only at h
        split at h
        · next htakes =>
          obtain ⟨hgives, heligible, hempty⟩ := htakes
          rw [slots_set_get] at h
          split at h
          · next hg =>
            cases h
            rw [State.givesSlots, beq_iff_eq] at hgives
            exact .inr ⟨rfl, hg, hgives, heligible, hg ▸ hempty, hn, hf⟩
          · exact .inl h
        · exact .inl h

end

end Sys2Proof.Machine

/-! PROOFS. A delivered REPORT (R37 to R40, R54, R55, R149), and the horn latch after contents (R158, R159). -/

namespace Sys2Proof.Machine

/-! ### The horn latch (R158, R159) -/

theorem callsHorn_mem {t : AlarmTable} {c : Condition} {e : Entry} {scope : BitVec 8} (h : t.find c = some e)
    (hcalls : callsHorn scope e = true) : t.entries.any (callsHorn scope) = true :=
  List.any_eq_true.mpr ⟨e, mem_of_find h, hcalls⟩

theorem removeEntry_quiet (me : Option StationNo) (c : Condition) (t : AlarmTable) (scope : BitVec 8) (u : AlarmTable) :
    (removeEntry me c ⟨t, []⟩).notices.any (Notice.sounds scope u) = false := by
  cases hf : t.find c with
  | none =>
    rw [removeEntry_of_none (ch := ⟨t, []⟩) hf]
    rfl
  | some e =>
    rw [List.any_eq_false]
    simp only [removeEntry, hf, List.nil_append, List.forall_mem_cons]
    refine ⟨by simp [Notice.sounds], fun x hx => ?_⟩
    obtain ⟨g, _, hg⟩ := List.mem_filterMap.mp hx
    split at hg
    · cases hg
      simp [Notice.sounds]
    · cases hg

/-- A notice of contents sounds exactly for an entry that calls and is new, in a new state or at a new revision (R158). -/
theorem sounds_applyContents (me : Option StationNo) (give : Bool) (src : StationNo) (r : PointReport) (t : AlarmTable)
    (scope : BitVec 8) :
    (applyContents me give src r ⟨t, []⟩).notices.any (Notice.sounds scope (applyContents me give src r ⟨t, []⟩).table) = true ↔
      ∃ e', (applyContents me give src r ⟨t, []⟩).table.find ⟨src, r.point⟩ = some e' ∧ callsHorn scope e' = true ∧
        ∀ e, t.find ⟨src, r.point⟩ = some e → e.state ≠ e'.state ∨ e.revision ≠ e'.revision := by
  cases hs : entryState? r.state with
  | none =>
    rw [find_applyContents_normal _ hs, applyContents_of_normal _ hs, removeEntry_quiet]
    exact ⟨nofun, fun ⟨_, h, _⟩ => nomatch h⟩
  | some st =>
    cases hf : t.find ⟨src, r.point⟩ with
    | some e =>
      rw [applyContents_of_held (ch := ⟨t, []⟩) hs hf, updateEntry]
      split
      · refine ⟨nofun, fun ⟨e', hfind, _, hmoved⟩ => ?_⟩
        obtain rfl : e' = e := Option.some.inj (hfind.symm.trans hf)
        exact (hmoved e' rfl).elim (fun h => absurd rfl h) (fun h => absurd rfl h)
      · next hdiffer =>
        have hcond := condition_of_find hf
        have hfind : (rewriteEntry e (fun x => x.take r st) ⟨t, []⟩).table.find ⟨src, r.point⟩ = some (e.take r st) := by
          rw [find_rewriteEntry e (fun x => x.take r st) _ (fun _ => rfl), hf, Option.map_some, if_pos rfl]
        have hmoved : (e.state != st || e.revision != r.revision) = true := by
          rw [Bool.or_eq_true, bne_iff_ne, bne_iff_ne]
          exact not_and_or.mp hdiffer
        have hslots (x : Notice) (hx : x ∈ (if decide ((e.take r st).group ≠ e.group ∧ t.slots[e.group] = some e.condition) then
            [Notice.slotChanged e.group none] else [])) :
            Notice.sounds scope (rewriteEntry e (fun x => x.take r st) ⟨t, []⟩).table x = false := by
          split at hx
          · rw [List.mem_singleton.mp hx]
            rfl
          · cases hx
        have hnotices : (rewriteEntry e (fun x => x.take r st) ⟨t, []⟩).notices.any
            (Notice.sounds scope (rewriteEntry e (fun x => x.take r st) ⟨t, []⟩).table) = callsHorn scope (e.take r st) := by
          show (Notice.sounds scope _ (.updated e.condition e.state e.revision st r.revision) || List.any _ _) = _
          rw [List.any_eq_false.mpr fun x hx => Bool.eq_false_iff.mp (hslots x hx), Bool.or_false]
          show ((e.state != st || e.revision != r.revision) && Option.any _ _) = _
          rw [hmoved, hcond, hfind]
          rfl
        rw [hnotices, hfind]
        refine ⟨fun h => ⟨_, rfl, h, fun x hx => ?_⟩, fun ⟨e', he', hcalls, _⟩ => Option.some.inj he' ▸ hcalls⟩
        obtain rfl := Option.some.inj hx
        exact not_and_or.mp hdiffer
    | none =>
      rw [applyContents_of_new (ch := ⟨t, []⟩) hs hf]
      by_cases hfull : some src ≠ me ∧ sharedPlaces ≤ occupancy me t.entries
      · rw [createEntry, if_pos hfull]
        refine ⟨nofun, fun ⟨e', hfind, _, _⟩ => ?_⟩
        exact absurd (hfind.symm.trans hf) nofun
      · have hfind : (createEntry me give src r st ⟨t, []⟩).table.find ⟨src, r.point⟩ = some (newEntry src r st) := by
          have hentries : (createEntry me give src r st ⟨t, []⟩).table.entries = t.entries ++ [newEntry src r st] := by
            rw [createEntry, if_neg hfull]
          have hnone : t.entries.find? (fun x => x.condition == ⟨src, r.point⟩) = none := hf
          rw [find_append_new _ _ _ _ hentries, hnone, Option.none_or]
          exact if_pos rfl
        have hnotices : (createEntry me give src r st ⟨t, []⟩).notices.any
            (Notice.sounds scope (createEntry me give src r st ⟨t, []⟩).table) = callsHorn scope (newEntry src r st) := by
          obtain ⟨rest, hrest, hquiet⟩ : ∃ rest, (createEntry me give src r st ⟨t, []⟩).notices =
              .created ⟨src, r.point⟩ st r.revision :: rest ∧ ∀ x ∈ rest, ∀ u, Notice.sounds scope u x = false := by
            rw [createEntry, if_neg hfull]
            refine ⟨_, rfl, fun x hx u => ?_⟩
            split at hx
            · rw [List.mem_singleton.mp hx]
              rfl
            · cases hx
          rw [hrest, List.any_cons, List.any_eq_false.mpr fun x hx => Bool.eq_false_iff.mp (hquiet x hx _), Bool.or_false]
          show Option.any _ _ = _
          rw [hfind]
          rfl
        rw [hnotices, hfind]
        exact ⟨fun h => ⟨_, rfl, h, nofun⟩, fun ⟨e', he', hcalls, _⟩ => Option.some.inj he' ▸ hcalls⟩

/-- Settles O39: the latch is the earlier latch or a sounding notice, while an entry calls. -/
theorem hornLatchFollowsTableChanges : Obligations.HornLatchFollowsTableChanges := by
  intro s give src b
  have hsounds := sounds_applyContents s.me give src b s.table s.ann.scope
  simp only [takeChange_horn, takeChange_table, hornAfter]
  refine ⟨fun hnone => ?_, fun e' hfind hcalls hmoved => ?_, fun hset ⟨e, he, hcalls⟩ => ?_, fun hclear hsame => ?_, fun hclear hquiet => ?_⟩
  · rw [Bool.and_eq_false_iff, List.any_eq_false]
    exact .inr fun e he => Bool.eq_false_iff.mp (hnone e he)
  · rw [hsounds.mpr ⟨e', hfind, hcalls, hmoved⟩, Bool.or_true, Bool.true_and]
    exact callsHorn_mem hfind hcalls
  · rw [hset, Bool.true_or, Bool.true_and]
    exact List.any_eq_true.mpr ⟨e, he, hcalls⟩
  · rw [hclear, Bool.false_or, Bool.and_eq_false_iff]
    refine .inl (Bool.eq_false_iff.mpr fun h => ?_)
    obtain ⟨e', hfind, -, hmoved⟩ := hsounds.mp h
    rw [hsame] at hfind
    exact (hmoved e' hfind).elim (fun hne => hne rfl) (fun hne => hne rfl)
  · rw [hclear, Bool.false_or, Bool.and_eq_false_iff]
    refine .inl (Bool.eq_false_iff.mpr fun h => ?_)
    obtain ⟨e', hfind, hcalls, hmoved⟩ := hsounds.mp h
    obtain hsilent | ⟨e, he, hstate, hrevision⟩ := hquiet e' hfind
    · exact absurd (hcalls.symm.trans hsilent) (by decide)
    · exact (hmoved e he).elim (fun hne => hne hstate) (fun hne => hne hrevision)

/-! ### A delivered REPORT -/

/-- A receiver that has taken a REPORT, before the end of the command. -/
def State.reported (src : StationNo) (b : PointReport) (s : State) : State := applyReport src b (s.taken src id)

theorem reported_table (src : StationNo) (b : PointReport) (s : State) : (s.reported src b).table = s.reportTable src b := by
  have hgives : (s.taken src id).givesSlots = s.givesSlots := by rw [State.givesSlots, taken_control]; rfl
  rw [State.reported, applyReport, takeChange_table, taken_table, taken_me, hgives]
  rfl

theorem overflowLaw_reportTable {s : State} (src : StationNo) (b : PointReport) (h : overflowLaw s.me s.table) :
    overflowLaw s.me (s.reportTable src b) :=
  (tableKeeps_overflowLaw s.me).contents s.givesSlots src b ⟨_, []⟩ (overflowLaw_heard src h)

theorem reported_settlesOn (src : StationNo) (b : PointReport) (s : State) :
    s.settlesOn (s.reportTable src b) 0 (s.reported src b) := by
  rw [← reported_table]
  have hcontrol : (s.reported src b).control = s.control := by simp [State.reported, applyReport]
  have hlink : (s.reported src b).link.lanesOpen = s.link.lanesOpen := by
    rw [State.reported, applyReport, takeChange_link, taken_link]
  have hmarks : (s.reported src b).marks = s.marks := marks_congr hcontrol hlink
  exact settlesOn_of_table (me_of_control hcontrol) (hmarks ▸ id) (by simp [State.reported, applyReport])
    (reported_table src b s ▸ overflowLaw_reportTable src b)

/-- A change that sets OVERFLOW suspends the repairs (R149). -/
theorem takeChange_suspends {f : Change → Change} {s : State} (hset : (f ⟨s.table, []⟩).table.overflow = true)
    (hclear : s.table.overflow = false) (n : StationNo) : ((takeChange f s).repairOf n).state ≠ .requested := by
  have hrepair : (takeChange f s).repair = suspendRepair s.repair := by
    unfold takeChange
    dsimp only
    rw [hset, hclear]
    rfl
  rw [State.repairOf, hrepair, suspendRepair_get]
  split
  · decide
  · next h => exact h

/-- A suspension makes no FAILED record, and ends none (R149). -/
theorem takeChange_repairFailed (f : Change → Change) (s : State) : (takeChange f s).repairFailed = s.repairFailed := by
  have hrecord (n : StationNo) : ((takeChange f s).repairOf n).state = .failed ↔ (s.repairOf n).state = .failed := by
    unfold takeChange
    dsimp only
    split
    · show ((suspendRepair s.repair)[n.index]).state = .failed ↔ (s.repair[n.index]).state = .failed
      rw [suspendRepair_get]
      split
      · next h => rw [h]; exact ⟨nofun, nofun⟩
      · rfl
    · rfl
  rw [Bool.eq_iff_iff, repairFailed_iff, repairFailed_iff]
  exact exists_congr hrecord

theorem takeChange_anyCause {f : Change → Change} {s : State} (h : (f ⟨s.table, []⟩).table.tableOverflow = s.table.tableOverflow) :
    (takeChange f s).anyCause = s.anyCause := by
  simp only [State.anyCause, State.lampFault, takeChange_repairFailed, takeChange_ann, takeChange_table, takeChange_link, h]

/-- With the causes settled and TABLE_OVERFLOW unchanged a REPORT leaves the engine (R17). -/
theorem reported_engine {s : State} {src : StationNo} {b : PointReport} (hcause : s.anyCause = s.engine.healthLevel)
    (hflag : (finish (s.reported src b)).table.tableOverflow = s.table.tableOverflow) :
    (finish (s.reported src b)).engine = s.engine := by
  have hengine : (s.reported src b).engine = s.engine := by simp [State.reported, applyReport]
  have hme : (s.reported src b).me = s.me := me_of_control (by simp [State.reported, applyReport])
  have hsame : (s.reportTable src b).tableOverflow = s.table.tableOverflow := by
    have hflags := finish_flags (s.reported src b)
    rw [reported_table, hme] at hflags
    obtain ⟨-, hkept⟩ | ⟨hfree, -, hclear⟩ := hflags
    · exact hkept.symm.trans hflag
    · rw [← hflag, hclear]
      refine Bool.eq_false_iff.mpr fun hset => ?_
      have := reportTable_tableOverflow hset (hflag.symm.trans hclear)
      omega
  have hany : (s.reported src b).anyCause = s.anyCause := by
    refine (takeChange_anyCause ?_).trans (taken_anyCause src id s)
    have htable := reported_table src b s
    rw [State.reported, applyReport, takeChange_table] at htable
    rw [htable, hsame, taken_table]
  exact (finish_engine_of_settled (by rw [hany, hengine, hcause])).trans hengine

/-- Settles O38: the table of each case, and the one look of the monitor after it. -/
theorem reportChangesItsEntry : Obligations.ReportChangesItsEntry := by
  intro s src b h hme
  refine ⟨finish (s.reported src b),
    congrArg Host.Outcome.next (whenActive_deliver_other (own := fun _ => applyReport src b) (other := fun _ => receiveReport src b) h hme), ?_⟩
  have hleaves : s.leavesTable (s.reportTable src b) (finish (s.reported src b)) :=
    (reported_settlesOn src b s).finish.leavesTable (by decide)
  have hflags := finish_flags (s.reported src b)
  rw [reported_table, show (s.reported src b).me = s.me from (reported_settlesOn src b s).me] at hflags
  refine ⟨fun hn hf => ?_, fun hn hf => reportTable_absent hn hf ▸ hleaves, fun st e hs hf => ⟨fun hstate hrev => ?_, fun hmoved => ?_⟩,
    fun st hs hf hroom => reportTable_created hs hf hroom ▸ hleaves, fun st hs hf hfull => ?_, reported_engine, fun g k hk => ?_⟩
  · have htable := reportTable_removed hn hf
    rw [htable] at hleaves hflags
    refine ⟨hleaves, fun hfree => ?_, fun hmany => ?_⟩
    · have hclear : decide (84 ≤ occupancy s.me ((s.heardEntries src).filter (fun e => decide (e.condition ≠ ⟨src, b.point⟩)))) = false :=
        decide_eq_false (by omega)
      obtain ⟨hover, htable'⟩ | ⟨-, hover, htable'⟩ := hflags
      · rw [hover, htable', hclear, Bool.and_false, Bool.and_false]
        exact ⟨rfl, rfl⟩
      · exact ⟨hover, htable'⟩
    · obtain ⟨hover, htable'⟩ | ⟨hfree, -⟩ := hflags
      · rw [hover, htable', decide_eq_true hmany, Bool.and_true, Bool.and_true]
        exact ⟨rfl, rfl⟩
      · exact absurd hmany (by dsimp only at hfree; omega)
  · exact reportTable_same hs hf hstate hrev ▸ hleaves
  · exact reportTable_rewritten hs hf hmoved ▸ hleaves
  · have htable := reportTable_dropped hme hs hf hfull
    rw [htable] at hleaves hflags
    obtain ⟨hover, htable'⟩ | ⟨hfree, -⟩ := hflags
    · refine ⟨hleaves, hover, htable', fun hclear n => ?_⟩
      rw [State.repairOf, finish_repair]
      refine takeChange_suspends ?_ (by rw [taken_table]; exact hclear) n
      have hreported := reported_table src b s
      rw [State.reported, applyReport, takeChange_table] at hreported
      rw [hreported, htable]
    · exact absurd hfull (by rw [occupancy_heard] at hfree; omega)
  · obtain ⟨-, -, hslots, -⟩ := hleaves
    exact reportTable_slot (hslots g k hk)

end Sys2Proof.Machine

/-! PROOFS. A loss and a LEAVE (R49, R122, R128, R132, R142, R147), and the own LEAVE's delivery (R179). -/

namespace Sys2Proof.Machine

/-! ### The awaited set (R132, R133) -/

theorem filter_bne_eq (n : StationNo) (l : List StationNo) : l.filter (· != n) = l.filter (fun m => decide (m ≠ n)) :=
  List.filter_congr fun m _ => by by_cases h : m = n <;> simp [h]

theorem filter_ne_eq_nil {n : StationNo} {l : List StationNo} : l.filter (fun m => decide (m ≠ n)) = [] ↔ ∀ m ∈ l, m = n := by
  simp [List.filter_eq_nil_iff]

/-- A removal of a number, in the three cases of R132. -/
theorem awaitedRemove_cases (n : StationNo) (s : State) :
    (n ∉ s.roster.awaited ∧ awaitedRemove n s = s) ∨
    (n ∈ s.roster.awaited ∧ ((∀ m ∈ s.roster.awaited, m = n) ∧ s.control.station = .joining) ∧
      awaitedRemove n s = enterRunning (s.withRoster { s.roster with awaited := [] })) ∨
    (n ∈ s.roster.awaited ∧ ¬((∀ m ∈ s.roster.awaited, m = n) ∧ s.control.station = .joining) ∧
      awaitedRemove n s = s.withRoster { s.roster with awaited := s.roster.awaited.filter (fun m => decide (m ≠ n)) }) := by
  unfold awaitedRemove
  dsimp only
  rw [filter_bne_eq]
  have hempty : (s.roster.awaited.filter (fun m => decide (m ≠ n))).isEmpty = true ↔ ∀ m ∈ s.roster.awaited, m = n :=
    List.isEmpty_iff.trans filter_ne_eq_nil
  split
  · next hin =>
    have hmem : n ∈ s.roster.awaited := List.contains_iff_mem.mp hin
    split
    · next hlast =>
      have hall := hempty.mp hlast.1
      rw [filter_ne_eq_nil.mpr hall]
      exact .inr (.inl ⟨hmem, ⟨hall, hlast.2⟩, rfl⟩)
    · next hnot => exact .inr (.inr ⟨hmem, fun h => hnot ⟨hempty.mpr h.1, h.2⟩, rfl⟩)
  · next hout => exact .inl ⟨fun hmem => hout (List.contains_iff_mem.mpr hmem), rfl⟩

theorem enterRunning_control {s : State} (h : s.control.station = .joining) :
    (enterRunning s).control = { s.control with station := .running } := by
  rw [enterRunning, leaveState_of_joining h]
  rfl

/-- A number leaves the awaited set (R132). -/
theorem awaitedRemove_awaitsNoMore (n : StationNo) (s : State) : s.awaitsNoMore n (awaitedRemove n s) := by
  obtain ⟨hout, heq⟩ | ⟨hin, ⟨hall, hjoining⟩, heq⟩ | ⟨hin, hnot, heq⟩ := awaitedRemove_cases n s
  · rw [heq]
    refine ⟨hout, fun ⟨_, hin, _⟩ => absurd hin hout, fun _ => ⟨rfl, ?_, rfl⟩⟩
    refine (List.filter_eq_self.mpr fun m hm => ?_).symm
    rw [decide_eq_true_eq]
    rintro rfl
    exact hout hm
  · have hroster := enterRunning_roster (s := s.withRoster { s.roster with awaited := [] }) hjoining
    have hcontrol := enterRunning_control (s := s.withRoster { s.roster with awaited := [] }) hjoining
    rw [heq]
    refine ⟨by rw [hroster]; exact List.not_mem_nil, fun _ => ⟨hcontrol, by rw [hroster], by rw [hroster]⟩,
      fun hnot => absurd ⟨hjoining, hin, hall⟩ hnot⟩
  · rw [heq]
    refine ⟨fun h => ?_, fun ⟨hjoining, _, hall⟩ => absurd ⟨hall, hjoining⟩ hnot, fun _ => ⟨rfl, rfl, rfl⟩⟩
    have h' : n ∈ s.roster.awaited.filter (fun m => decide (m ≠ n)) := h
    simp at h'

/-- The removal leaves the entries, and a station that marks still marks. -/
theorem awaitedRemove_frame (n : StationNo) (s : State) :
    (awaitedRemove n s).roster.entries = s.roster.entries ∧ (awaitedRemove n s).me = s.me ∧
      (s.marks = true → (awaitedRemove n s).marks = true) := by
  obtain ⟨-, heq⟩ | ⟨-, ⟨-, hjoining⟩, heq⟩ | ⟨-, -, heq⟩ := awaitedRemove_cases n s
  · rw [heq]
    exact ⟨rfl, rfl, id⟩
  · have hroster := enterRunning_roster (s := s.withRoster { s.roster with awaited := [] }) hjoining
    have hcontrol := enterRunning_control (s := s.withRoster { s.roster with awaited := [] }) hjoining
    rw [heq]
    refine ⟨by rw [hroster]; rfl, by rw [State.me, hcontrol]; rfl, fun _ => by rw [State.marks, hcontrol]⟩
  · rw [heq]
    exact ⟨rfl, rfl, id⟩

/-- `awaitsNoMore` reads the control and the awaited set alone. -/
theorem State.awaitsNoMore.congr {n : StationNo} {s s' t t' : State} (h : s.awaitsNoMore n t) (hc : s.control = s'.control)
    (ha : s.roster.awaited = s'.roster.awaited) (hw : s.roster.joinWindow = s'.roster.joinWindow) (hc' : t'.control = t.control)
    (hr' : t'.roster = t.roster) : s'.awaitsNoMore n t' := by
  unfold State.awaitsNoMore at h ⊢
  rw [hc', hr', ← hc, ← ha, ← hw]
  exact h

/-! ### The end of a repair (R144, R147) -/

theorem endRepair_withdraws {s : State} (n : StationNo) :
    (endRepair n s).link.lanes.repair = withdrawIn (s.onAir .repair) n s.link.lanes.repair ∧ (endRepair n s).repairOf n = .atReset ∧
      ∀ m : StationNo, m ≠ n → (endRepair n s).repairOf m = s.repairOf m := by
  refine ⟨rfl, ?_, fun m hm => ?_⟩
  · exact (repairOf_setRepair s n n RepairRecord.atReset).trans (if_pos rfl)
  · exact (repairOf_setRepair s n m RepairRecord.atReset).trans (if_neg hm)

theorem marks_endRepair (n : StationNo) (s : State) : (endRepair n s).marks = s.marks := marks_congr (endRepair_control n s) rfl

theorem withdraws_of_lane {s t : State} {n : StationNo} (h : t.link.lanes.repair = withdrawIn (s.onAir .repair) n s.link.lanes.repair) :
    s.withdraws n t := by
  refine ⟨h, fun hair e he owners hw => ?_⟩
  rw [h, hair] at he
  exact unnamed_withdrawIn_self n _ e he owners hw

/-! ### A loss or a departure (R122, R128) -/

/-- What a loss or a departure hands on, from a state whose entry of the station alone has changed. -/
structure State.losesMember (s : State) (n : StationNo) (e : RosterEntry) (t : State) : Prop where
  member : t.member n = e
  others : ∀ m : StationNo, m ≠ n → t.member m = s.member m
  table : s.leavesTable { s.table with entries := staleAs true n s.table.entries } t
  repair : t.repairOf n = .atReset
  withdraws : s.withdraws n t
  awaits : s.awaitsNoMore n t
  monitor : t.monitor = s.monitor
  service : t.service = s.service
  pins : t.pins = s.pins

/-- The stale marking and the end of the repair (R122, R147). -/
def markLoss (n : StationNo) (s : State) : State := endRepair n (takeChange (setStale true n) s)

theorem handOnLoss_losesMember (o : Orders) {s u : State} {n : StationNo} {e : RosterEntry} (hcontrol : u.control = s.control)
    (hengine : u.engine = s.engine) (htable : u.table = s.table) (hlanes : u.link.lanes = s.link.lanes)
    (hsending : u.link.sending = s.link.sending) (hopen : u.link.lanesOpen = s.link.lanesOpen)
    (hroster : u.roster = (s.setMember n e).roster) (hmonitor : u.monitor = s.monitor) (hservice : u.service = s.service)
    (hpins : u.pins = s.pins) : s.losesMember n e (finish (handOnLoss o n u)) := by
  have hloss : (markLoss n u).control = s.control ∧ (markLoss n u).engine = s.engine ∧ (markLoss n u).roster = u.roster ∧ (markLoss n u).monitor = s.monitor ∧
      (markLoss n u).service = s.service ∧ (markLoss n u).pins = s.pins ∧ (markLoss n u).table = { s.table with entries := staleAs true n s.table.entries } := by
    simp [markLoss, hcontrol, hengine, hmonitor, hservice, hpins, htable]
  obtain ⟨hcontrol', hengine', hroster', hmonitor', hservice', hpins', htable'⟩ := hloss
  have hmarks : (markLoss n u).marks = s.marks := marks_congr hcontrol' (by simp [markLoss, endRepair, withdrawOwner, hopen])
  obtain ⟨hlane, hrecord, -⟩ := endRepair_withdraws (s := takeChange (setStale true n) u) n
  have hlooked := (causeMoment_looked o (markLoss n u)).1
  obtain ⟨hentries, hme, hmarked⟩ := awaitedRemove_frame n (causeMoment o (markLoss n u))
  have hlast := (finish_looked (awaitedRemove n (causeMoment o (markLoss n u)))).1
  have hsettles : s.settlesOn { s.table with entries := staleAs true n s.table.entries } 0 (markLoss n u) := by
    rw [← htable']
    exact settlesOn_of_table (me_of_control hcontrol') (hmarks ▸ id) hengine'
      (htable' ▸ (tableKeeps_overflowLaw s.me).stale true n s.table)
  have hmember (m : StationNo) : (finish (awaitedRemove n (causeMoment o (markLoss n u)))).member m = (s.setMember n e).member m := by
    rw [member_finish]
    exact congrArg (fun v : Vector RosterEntry 48 => v[m.index])
      (hentries.trans (congrArg Roster.entries (hlooked.roster.trans (hroster'.trans hroster))))
  have hrepairLane : (finish (awaitedRemove n (causeMoment o (markLoss n u)))).link.lanes.repair =
      withdrawIn (s.onAir .repair) n s.link.lanes.repair := by
    rw [hlast.repairLane, awaitedRemove_link, hlooked.repairLane, markLoss, hlane, State.onAir, takeChange_link, hsending, hlanes]
    rfl
  rw [show handOnLoss o n u = awaitedRemove n (causeMoment o (markLoss n u)) from rfl]
  exact
    { member := (hmember n).trans ((member_setMember s n n e).trans (if_pos rfl))
      others := fun m hm => (hmember m).trans ((member_setMember s n m e).trans (if_neg hm))
      table := ((hsettles.causeMoment o).act hme hmarked (awaitedRemove_engine ..) (awaitedRemove_table ..)).finish.leavesTable
        (by decide)
      repair := by
        rw [State.repairOf, hlast.repair, awaitedRemove_repair, hlooked.repair]
        exact hrecord
      withdraws := withdraws_of_lane hrepairLane
      awaits := (awaitedRemove_awaitsNoMore n (causeMoment o (markLoss n u))).congr (hlooked.control.trans hcontrol')
        (by rw [hlooked.roster, hroster', hroster]; rfl) (by rw [hlooked.roster, hroster', hroster]; rfl) hlast.control hlast.roster
      monitor := by rw [hlast.monitor, awaitedRemove_monitor, hlooked.monitor, hmonitor']
      service := by rw [hlast.service, awaitedRemove_service, hlooked.service, hservice']
      pins := by rw [hlast.pins, awaitedRemove_pins, hlooked.pins, hpins'] }

/-- Settles O22: the timer of a PRESENT entry that runs out, and what its loss hands on. -/
theorem silenceExpiryMarksLost : Obligations.SilenceExpiryMarksLost := by
  intro n s hactive _ hpresent hrunning
  have hexpiry : silenceExpiry (Config.orders s.draws) n s.drawn =
      handOnLoss (Config.orders s.draws) n (s.drawn.setMember n { s.member n with state := .lost, silence := .stopped }) :=
    if_pos ⟨hpresent, hrunning⟩
  have hloses := handOnLoss_losesMember (Config.orders s.draws) (s := s)
    (u := s.drawn.setMember n { s.member n with state := .lost, silence := .stopped }) rfl rfl rfl rfl rfl rfl rfl rfl rfl rfl
  refine ⟨_, whenActive_next hactive, ?_⟩
  rw [hexpiry]
  exact ⟨hloses.member, hloses.others, hloses.table, hloses.repair, hloses.withdraws, hloses.awaits, hloses.monitor, hloses.service,
    hloses.pins⟩

/-! ### The own LEAVE (R179) -/

theorem deliver_own {o : Orders} {f : Frame} {own other : State → State} {s : State} {lane : Lane} (ha : s.active = true)
    (hsend : s.link.sending = some { lane := lane, frame := f }) : deliver o f own other s.drawn = own (ownDelivered o lane s.drawn) := by
  unfold deliver
  rw [if_pos (show s.drawn.active = true from ha), drawn_link, hsend]
  exact if_pos rfl

/-- A sender that has counted its delivered frame, whose head has not left its lane yet (R88). -/
def ownCounted (lane : Lane) (s : State) : State :=
  s.withLink
    { s.link with
      delivered := s.link.delivered.bump, undeliveredRun := 0, objecting := false,
      degraded := s.link.degraded && headAttempt lane s.link.lanes != 1 }

theorem dropDelivered_roll_lanes (l : Lanes) :
    (dropDelivered .roll l).report = l.report ∧ (dropDelivered .roll l).operator = l.operator := by
  show (rollDelivered l).report = l.report ∧ (rollDelivered l).operator = l.operator
  unfold rollDelivered
  split <;> exact ⟨rfl, rfl⟩

/-- An emptying after the own delivery of a ROLL frame empties the lanes before it. -/
theorem ownDelivered_empties {o : Orders} {s t : State}
    (h : (ownDelivered o .roll s).emptiesLanes (ownDelivered o .roll s).link.lanes t) : s.emptiesLanes s.link.lanes t := by
  obtain ⟨hreport, hoperator⟩ := dropDelivered_roll_lanes (causeMoment o (ownCounted .roll s)).link.lanes
  have hmoment : (causeMoment o (ownCounted .roll s)).emptiesLanes (causeMoment o (ownCounted .roll s)).link.lanes t :=
    emptiesLanes_of_lanes (l' := (ownDelivered o .roll s).link.lanes) hreport hoperator
      (emptiesLanes_congr (s' := ownDelivered o .roll s) rfl (fun _ _ => rfl) rfl rfl h)
  exact emptiesLanes_congr (s' := ownCounted .roll s) rfl (fun _ _ => rfl) rfl rfl
    ((causeMoment_looked o (ownCounted .roll s)).1.empties hmoment)

/-- Settles O47: what a departure hands on, and the end of DEPARTING at the sender. -/
theorem leaveEndsMembership : Obligations.LeaveEndsMembership := by
  refine ⟨fun s src c h hme => ?_, fun s n c hactive hdeparting hsend => ?_⟩
  · refine ⟨_, congrArg Host.Outcome.next (whenActive_deliver_other (own := ownLeave) (other := fun o => takeLeave o src) h hme), ?_⟩
    have hloses := handOnLoss_losesMember (Config.orders s.draws) (s := s)
      (u := s.counted.setMember src { s.member src with state := .left, silence := .stopped }) rfl rfl rfl rfl rfl rfl rfl rfl rfl rfl
    exact ⟨hloses.member, hloses.others, hloses.table, hloses.repair, hloses.withdraws, hloses.awaits, hloses.monitor, hloses.service,
      hloses.pins⟩
  · refine ⟨_, whenActive_next hactive, ?_⟩
    have hown : takeLeaveFrame (Config.orders s.draws) n c s.drawn =
        enterDeparted (Config.orders s.draws) (ownDelivered (Config.orders s.draws) .roll s.drawn) :=
      (deliver_own hactive hsend).trans (if_pos (by rw [ownDelivered_control]; exact hdeparting))
    obtain ⟨hempties, -, -, hlow, hnormal⟩ := finish_enterDeparted (o := Config.orders s.draws)
      (s := ownDelivered (Config.orders s.draws) .roll s.drawn)
    rw [ownDelivered_control] at hlow hnormal
    rw [hown]
    exact ⟨ownDelivered_empties (s := s.drawn) hempties, hlow, hnormal⟩

end Sys2Proof.Machine

/-! PROOFS. A delivered PRESENCE: the restart check, the digest comparison and the cadence (R48, R126, R137, R140 to R142). -/

namespace Sys2Proof.Machine

/-! ### The digest comparison touches the Repair Unit and its lane alone (R140) -/

/-- A state with the repair records and the Link Controller of another. -/
def State.withRepairOf (s t : State) : State := (s.withRepair t.repair).withLink t.link

theorem compareDigest_cases (n : StationNo) (b : PresenceBody) (s : State) :
    (¬(s.control.station = .running ∧ s.table.overflow = false ∧ (s.repairOf n).state ≠ .requested) ∧ compareDigest n b s = s) ∨
      ((s.control.station = .running ∧ s.table.overflow = false ∧ (s.repairOf n).state ≠ .requested) ∧
        ((digestMatches s.table n b = true ∧ compareDigest n b s = s.setRepair n RepairRecord.atReset) ∨
          (digestMatches s.table n b = false ∧
            compareDigest n b s = requestOwner n (s.setRepair n (requestedRecord 1 b.interval))))) := by
  unfold compareDigest
  split
  · next h =>
    refine .inr ⟨h, ?_⟩
    cases digestMatches s.table n b with
    | true => exact .inl ⟨rfl, rfl⟩
    | false => exact .inr ⟨rfl, rfl⟩
  · next h => exact .inl ⟨h, rfl⟩

theorem requestOwner_eq (n : StationNo) (s : State) : requestOwner n s = s.withRepairOf (requestOwner n s) := by
  unfold requestOwner
  split <;> rfl

theorem requestOwner_lanesOpen (n : StationNo) (s : State) : (requestOwner n s).link.lanesOpen = s.link.lanesOpen := by
  unfold requestOwner
  split <;> rfl

theorem compareDigest_eq (n : StationNo) (b : PresenceBody) (s : State) :
    compareDigest n b s = s.withRepairOf (compareDigest n b s) := by
  obtain ⟨-, heq⟩ | ⟨-, ⟨-, heq⟩ | ⟨-, heq⟩⟩ := compareDigest_cases n b s <;> rw [heq]
  · rfl
  · rfl
  · rw [requestOwner_eq]
    rfl

theorem compareDigest_lanesOpen (n : StationNo) (b : PresenceBody) (s : State) :
    (compareDigest n b s).link.lanesOpen = s.link.lanesOpen := by
  obtain ⟨-, heq⟩ | ⟨-, ⟨-, heq⟩ | ⟨-, heq⟩⟩ := compareDigest_cases n b s <;> rw [heq]
  · rfl
  · exact requestOwner_lanesOpen n _

theorem compareDigest_others {n m : StationNo} (b : PresenceBody) (s : State) (h : m ≠ n) :
    (compareDigest n b s).repairOf m = s.repairOf m := by
  obtain ⟨-, heq⟩ | ⟨-, ⟨-, heq⟩ | ⟨-, heq⟩⟩ := compareDigest_cases n b s <;> rw [heq]
  · exact (repairOf_setRepair s n m _).trans (if_neg h)
  · rw [State.repairOf, requestOwner_repair]
    exact (repairOf_setRepair s n m _).trans (if_neg h)

/-! ### The other acts on a PRESENCE read neither -/

theorem takeChange_withRepairOf {f : Change → Change} {s : State} (t : State)
    (h : (f ⟨s.table, []⟩).table.overflow = true → s.table.overflow = true) :
    takeChange f (s.withRepairOf t) = (takeChange f s).withRepairOf t := by
  have hset : ((f ⟨s.table, []⟩).table.overflow && !s.table.overflow) = false := by
    rw [Bool.and_eq_false_iff, Bool.not_eq_false']
    cases hover : (f ⟨s.table, []⟩).table.overflow with
    | false => exact .inl rfl
    | true => exact .inr (h hover)
  have hset' : ((f ⟨(s.withRepairOf t).table, []⟩).table.overflow && !(s.withRepairOf t).table.overflow) = false := hset
  unfold takeChange
  dsimp only
  rw [hset, hset']
  rfl

theorem removeOwner_overflow {me : Option StationNo} {n : StationNo} {t : AlarmTable}
    (h : (removeOwner me n ⟨t, []⟩).table.overflow = true) : t.overflow = true := by
  rw [removeOwner_table] at h
  exact (Bool.and_eq_true_iff.mp h).1

theorem revive_withRepairOf (n : StationNo) (s t : State) : revive n (s.withRepairOf t) = (revive n s).withRepairOf t := by
  cases h : (s.member n).state.unheard with
  | true =>
    rw [revive_of_unheard h, revive_of_unheard (s := s.withRepairOf t) h]
    exact takeChange_withRepairOf (s := s.setMember n (s.member n).heard) t id
  | false => rw [(revive_of_heard h).1, (revive_of_heard (s := s.withRepairOf t) h).1]

/-- Whether a PRESENCE finds a restart: the count known is another (R126). -/
def State.restarts (s : State) (n : StationNo) (count : Byte) : Prop := ∃ c, (s.member n).restartCount = some c ∧ c ≠ count

/-- The restart check, with and without a restart. -/
theorem restartCheck_cases (n : StationNo) (count : Byte) (s : State) :
    (s.restarts n count ∧
      restartCheck n count s = takeChange (removeOwner s.me n) (s.setMember n { s.member n with restartCount := some count })) ∨
    (¬s.restarts n count ∧ restartCheck n count s = s.withRoster (s.setMember n { s.member n with restartCount := some count }).roster) := by
  unfold restartCheck State.restarts
  split
  · next hnone => exact .inr ⟨fun ⟨c, hc, _⟩ => (nomatch hc.symm.trans hnone), rfl⟩
  · next c hc =>
    split
    · next heq =>
      refine .inr ⟨fun ⟨c', hc', hne⟩ => hne ((Option.some.inj (hc'.symm.trans hc)).trans heq), ?_⟩
      have hsame : ({ s.member n with restartCount := some count } : RosterEntry) = s.member n := by rw [← heq, ← hc]
      rw [hsame, setMember_self]
      rfl
    · next hne => exact .inl ⟨⟨c, hc, hne⟩, rfl⟩

theorem restartCheck_withRepairOf (n : StationNo) (count : Byte) (s t : State) :
    restartCheck n count (s.withRepairOf t) = (restartCheck n count s).withRepairOf t := by
  obtain ⟨h, heq⟩ | ⟨h, heq⟩ := restartCheck_cases n count s
  · obtain ⟨-, heq'⟩ | ⟨h', -⟩ := restartCheck_cases n count (s.withRepairOf t)
    · rw [heq, heq']
      exact takeChange_withRepairOf (s := s.setMember n { s.member n with restartCount := some count }) t removeOwner_overflow
    · exact absurd h h'
  · obtain ⟨h', -⟩ | ⟨-, heq'⟩ := restartCheck_cases n count (s.withRepairOf t)
    · exact absurd h' h
    · rw [heq, heq']
      rfl

theorem adoptCadence_withRepairOf (n : StationNo) (phase : Phase) (s t : State) :
    adoptCadence n phase (s.withRepairOf t) = (adoptCadence n phase s).withRepairOf t := by
  unfold adoptCadence
  rw [show (s.withRepairOf t).cadenceReference = s.cadenceReference from rfl]
  split <;> rfl

/-! ### A PRESENCE, with its comparison set apart (R141) -/

/-- A receiver that has checked a PRESENCE for a restart. -/
def State.checked (src : StationNo) (b : PresenceBody) (s : State) : State :=
  restartCheck src b.restartCount (s.taken src (recordInterval b))

/-- Wherever the comparison has its place, the Repair Unit and its lane are left by the comparison alone, at a state that the other acts
have reached, and the rest by the other acts. -/
theorem receivePresence_eq (o : Orders) (src : StationNo) (b : PresenceBody) (s : State) :
    ∃ at_, (at_ = s.counted ∨ at_ = revive src s.counted ∨ at_ = s.checked src b) ∧
      receivePresence o src b s.counted = (adoptCadence src b.phase (s.checked src b)).withRepairOf (compareDigest src b at_) := by
  cases hplace : o.compare with
  | beforeRevival =>
    refine ⟨_, .inl rfl, ?_⟩
    simp only [receivePresence, compareIf, hplace, if_true, reduceCtorEq, if_false]
    rw [compareDigest_eq, revive_withRepairOf, ← adoptCadence_withRepairOf, State.checked, ← restartCheck_withRepairOf]
    rfl
  | afterRevival =>
    refine ⟨_, .inr (.inl rfl), ?_⟩
    simp only [receivePresence, compareIf, hplace, if_true, reduceCtorEq, if_false]
    rw [compareDigest_eq, ← adoptCadence_withRepairOf, State.checked, ← restartCheck_withRepairOf]
    rfl
  | afterRestart =>
    refine ⟨_, .inr (.inr rfl), ?_⟩
    simp only [receivePresence, compareIf, hplace, if_true, reduceCtorEq, if_false]
    rw [← adoptCadence_withRepairOf, ← compareDigest_eq]
    rfl

end Sys2Proof.Machine

/-! PROOFS. A delivered PRESENCE, what it records and what it leaves (R48, R126, R137, R140, R142, R149). -/

namespace Sys2Proof.Machine

/-! ### The restart check of a PRESENCE (R48, R126) -/

theorem restartCheck_roster (n : StationNo) (count : Byte) (s : State) :
    (restartCheck n count s).roster = (s.setMember n { s.member n with restartCount := some count }).roster := by
  obtain ⟨-, heq⟩ | ⟨-, heq⟩ := restartCheck_cases n count s <;> rw [heq]
  · exact takeChange_roster ..
  · rfl

theorem restartCheck_repair (n : StationNo) (count : Byte) (s : State) : (restartCheck n count s).repair = s.repair := by
  obtain ⟨-, heq⟩ | ⟨-, heq⟩ := restartCheck_cases n count s <;> rw [heq]
  · exact takeChange_removeOwner_repair ..
  · rfl

section
variable (src : StationNo) (b : PresenceBody) (s : State)

theorem checked_control : (s.checked src b).control = s.control := (restartCheck_control ..).trans (taken_control ..)
theorem checked_engine : (s.checked src b).engine = s.engine := (restartCheck_engine ..).trans (taken_engine ..)
theorem checked_repair : (s.checked src b).repair = s.repair := (restartCheck_repair ..).trans (taken_repair ..)
theorem checked_link : (s.checked src b).link = s.counted.link := (restartCheck_link ..).trans (taken_link src _ s)
theorem checked_me : (s.checked src b).me = s.me := me_of_control (checked_control src b s)

/-- The source's entry: its count and its interval, and its timer from zero (R121, R125, R126). -/
theorem member_checked_self :
    (s.checked src b).member src =
      { (s.member src).heard with
        restartCount := some b.restartCount, interval := b.interval,
        silence := Timer.start (s.roster.lossWindow * intervalMs b.interval) } := by
  have hroster := restartCheck_roster src b.restartCount (s.taken src (recordInterval b))
  have hmember : (s.checked src b).member src =
      { (s.taken src (recordInterval b)).member src with restartCount := some b.restartCount } :=
    (congrArg (fun r : Roster => r.entries[src.index]) hroster).trans
      ((member_setMember (s.taken src (recordInterval b)) src src _).trans (if_pos rfl))
  rw [hmember, member_taken_self]
  rfl

theorem member_checked_of_ne {m : StationNo} (h : m ≠ src) : (s.checked src b).member m = s.member m := by
  have hroster := restartCheck_roster src b.restartCount (s.taken src (recordInterval b))
  have hmember : (s.checked src b).member m = (s.taken src (recordInterval b)).member m :=
    (congrArg (fun r : Roster => r.entries[m.index]) hroster).trans
      ((member_setMember (s.taken src (recordInterval b)) src m _).trans (if_neg h))
  rw [hmember, member_taken_of_ne _ _ h]

theorem restarts_taken : (s.taken src (recordInterval b)).restarts src b.restartCount ↔ s.restarts src b.restartCount := by
  unfold State.restarts
  rw [member_taken_self]
  rfl

theorem checked_table_of_restart (h : s.restarts src b.restartCount) : (s.checked src b).table = s.withoutOwner src := by
  obtain ⟨-, heq⟩ | ⟨hnot, -⟩ := restartCheck_cases src b.restartCount (s.taken src (recordInterval b))
  · have htable : ((s.taken src (recordInterval b)).setMember src
        { (s.taken src (recordInterval b)).member src with restartCount := some b.restartCount }).table =
          { s.table with entries := s.heardEntries src } := taken_table src (recordInterval b) s
    rw [State.checked, heq, takeChange_table, htable, taken_me, removeOwner_heard]
  · exact absurd ((restarts_taken src b s).mpr h) hnot

theorem checked_table_of_none (h : ¬s.restarts src b.restartCount) :
    (s.checked src b).table = { s.table with entries := s.heardEntries src } := by
  obtain ⟨hrestarts, -⟩ | ⟨-, heq⟩ := restartCheck_cases src b.restartCount (s.taken src (recordInterval b))
  · exact absurd ((restarts_taken src b s).mp hrestarts) h
  · rw [State.checked, heq]
    exact taken_table src (recordInterval b) s

theorem checked_ann : ∃ horn, (s.checked src b).ann = { s.ann with horn := horn } := by
  obtain ⟨horn, hann⟩ := revive_ann src s.counted
  have hann' : (s.taken src (recordInterval b)).ann = { s.ann with horn := horn } := hann
  obtain ⟨-, heq⟩ | ⟨-, heq⟩ := restartCheck_cases src b.restartCount (s.taken src (recordInterval b)) <;> rw [State.checked, heq]
  · have hset (e : RosterEntry) : ((s.taken src (recordInterval b)).setMember src e).ann = { s.ann with horn := horn } := hann'
    rw [takeChange_ann, hset]
    exact ⟨_, rfl⟩
  · exact ⟨horn, hann'⟩

end

/-! ### The state at which the comparison is made (R141) -/

/-- A state that the other acts on a PRESENCE have reached: the Repair Unit and the lanes are as they were. -/
theorem comparisonState_frame {src : StationNo} {b : PresenceBody} {s u : State}
    (h : u = s.counted ∨ u = revive src s.counted ∨ u = s.checked src b) :
    u.control = s.control ∧ u.repair = s.repair ∧ u.link = s.counted.link ∧
      (¬s.restarts src b.restartCount → u.table.overflow = s.table.overflow) ∧
      ((s.member src).state = .present → ¬s.restarts src b.restartCount → u.table = s.table) := by
  obtain rfl | rfl | rfl := h
  · exact ⟨rfl, rfl, rfl, fun _ => rfl, fun _ _ => rfl⟩
  · refine ⟨revive_control .., revive_repair .., revive_link .., fun _ => by rw [revive_table]; rfl, fun hpresent _ => ?_⟩
    have hsame : revive src s.counted = s.counted := (revive_of_heard (s := s.counted) (by rw [show (s.counted.member src).state = .present from hpresent]; rfl)).1
    rw [hsame]
    rfl
  · refine ⟨checked_control .., checked_repair .., checked_link .., fun hnone => by rw [checked_table_of_none _ _ _ hnone], fun hpresent hnone => ?_⟩
    have hheard : s.heardEntries src = s.table.entries := by
      rw [State.heardEntries, hpresent]
      rfl
    rw [checked_table_of_none _ _ _ hnone, hheard]

theorem withRepairOf_control (s t : State) : (s.withRepairOf t).control = s.control := rfl
theorem withRepairOf_engine (s t : State) : (s.withRepairOf t).engine = s.engine := rfl
theorem withRepairOf_table (s t : State) : (s.withRepairOf t).table = s.table := rfl
theorem withRepairOf_roster (s t : State) : (s.withRepairOf t).roster = s.roster := rfl
theorem withRepairOf_monitor (s t : State) : (s.withRepairOf t).monitor = s.monitor := rfl
theorem withRepairOf_service (s t : State) : (s.withRepairOf t).service = s.service := rfl
theorem withRepairOf_pins (s t : State) : (s.withRepairOf t).pins = s.pins := rfl
theorem withRepairOf_ann (s t : State) : (s.withRepairOf t).ann = s.ann := rfl
theorem withRepairOf_repair (s t : State) : (s.withRepairOf t).repair = t.repair := rfl
theorem withRepairOf_link (s t : State) : (s.withRepairOf t).link = t.link := rfl

theorem cadenceReference_congr {s t : State} (hc : t.control = s.control) (hr : t.roster = s.roster) :
    t.cadenceReference = s.cadenceReference := by
  have hcandidate : t.cadenceCandidate = s.cadenceCandidate := by
    funext n
    rw [State.cadenceCandidate, State.cadenceCandidate, State.member, State.member, me_of_control hc, hc, hr]
  rw [State.cadenceReference, State.cadenceReference, hcandidate]

/-- A receiver that has taken a PRESENCE, with its comparison made at the state given. -/
def State.present (src : StationNo) (b : PresenceBody) (s u : State) : State :=
  (adoptCadence src b.phase (s.checked src b)).withRepairOf (compareDigest src b u)

section
variable (src : StationNo) (b : PresenceBody) (s u : State)

theorem present_control : (s.present src b u).control = s.control := by
  rw [State.present, withRepairOf_control, adoptCadence_control, checked_control]
theorem present_engine : (s.present src b u).engine = s.engine := by
  rw [State.present, withRepairOf_engine, adoptCadence_engine, checked_engine]
theorem present_table : (s.present src b u).table = (s.checked src b).table := by
  rw [State.present, withRepairOf_table, adoptCadence_table]
theorem present_roster : (s.present src b u).roster = (s.checked src b).roster := by
  rw [State.present, withRepairOf_roster, adoptCadence_roster]
theorem present_monitor : (s.present src b u).monitor = s.monitor := by
  rw [State.present, withRepairOf_monitor, adoptCadence_monitor, State.checked, restartCheck_monitor, taken_monitor]
theorem present_service : (s.present src b u).service = s.service := by
  rw [State.present, withRepairOf_service, adoptCadence_service, State.checked, restartCheck_service, taken_service]
theorem present_pins : (s.present src b u).pins = s.pins := by
  rw [State.present, withRepairOf_pins, adoptCadence_pins, State.checked, restartCheck_pins, taken_pins]
theorem present_repair : (s.present src b u).repair = (compareDigest src b u).repair := by
  rw [State.present, withRepairOf_repair]
theorem present_link : (s.present src b u).link = (compareDigest src b u).link := by
  rw [State.present, withRepairOf_link]

/-- The phase is the frame's exactly at the cadence reference (R137). -/
theorem present_phase :
    ((s.present src b u).cadenceReference = some src → (s.present src b u).ann.phase = b.phase) ∧
      ((s.present src b u).cadenceReference ≠ some src → (s.present src b u).ann.phase = s.ann.phase) := by
  have hreference : (s.present src b u).cadenceReference = (s.checked src b).cadenceReference :=
    cadenceReference_congr ((present_control ..).trans (checked_control ..).symm) (present_roster ..)
  obtain ⟨horn, hann⟩ := checked_ann src b s
  have hphase : (s.present src b u).ann.phase =
      if (s.checked src b).cadenceReference = some src then b.phase else s.ann.phase := by
    rw [State.present, withRepairOf_ann, adoptCadence]
    split
    · rfl
    · rw [hann]
  rw [hreference, hphase]
  exact ⟨fun h => if_pos h, fun h => if_neg h⟩

end

theorem overflowLaw_checked {s : State} (src : StationNo) (b : PresenceBody) (h : overflowLaw s.me s.table) :
    overflowLaw s.me (s.checked src b).table := by
  by_cases hrestart : s.restarts src b.restartCount
  · rw [checked_table_of_restart _ _ _ hrestart]
    exact overflowLaw_withoutOwner src h
  · rw [checked_table_of_none _ _ _ hrestart]
    exact overflowLaw_heard src h

theorem present_settlesOn {src : StationNo} {b : PresenceBody} {s u : State} (hlink : u.link = s.counted.link) :
    s.settlesOn (s.checked src b).table 0 (s.present src b u) := by
  rw [← present_table src b s u]
  have hmarks : (s.present src b u).marks = s.marks :=
    marks_congr (present_control ..) (by rw [present_link, compareDigest_lanesOpen, hlink]; rfl)
  exact settlesOn_of_table (me_of_control (present_control ..)) (hmarks ▸ id) (present_engine ..)
    (present_table src b s u ▸ overflowLaw_checked src b)

/-- The comparison, where nothing precludes it (R140). -/
theorem compareDigest_of_compared {src : StationNo} {b : PresenceBody} {u : State} (ha : u.active = true)
    (hrunning : u.control.station = .running) (hoverflow : u.table.overflow = false) (hrecord : (u.repairOf src).state ≠ .requested) :
    (digestMatches u.table src b = true →
      (compareDigest src b u).repairOf src = .atReset ∧ (compareDigest src b u).link.lanes.repair = u.link.lanes.repair) ∧
    (digestMatches u.table src b = false →
      (compareDigest src b u).repairOf src = { state := .requested, attempts := 1, timer := .running (2 * intervalMs b.interval) 0 } ∧
      ∃ e ∈ (compareDigest src b u).link.lanes.repair, ∃ owners, e.work = .request owners ∧ src ∈ owners) := by
  obtain ⟨hnot, -⟩ | ⟨-, ⟨hmatch, heq⟩ | ⟨hmatch, heq⟩⟩ := compareDigest_cases src b u
  · exact absurd ⟨hrunning, hoverflow, hrecord⟩ hnot
  · rw [heq, hmatch]
    exact ⟨fun _ => ⟨(repairOf_setRepair u src src _).trans (if_pos rfl), rfl⟩, nofun⟩
  · rw [heq, hmatch]
    refine ⟨nofun, fun _ => ⟨?_, requestOwner_holds (lanesTake_of_running ha hrunning)⟩⟩
    rw [State.repairOf, requestOwner_repair]
    exact (repairOf_setRepair u src src _).trans (if_pos rfl)

/-- The comparison, where something precludes it (R140, R149). -/
theorem compareDigest_of_precluded {src : StationNo} {b : PresenceBody} {u : State}
    (h : u.control.station ≠ .running ∨ (u.repairOf src).state = .requested ∨ u.table.overflow = true) : compareDigest src b u = u := by
  obtain ⟨-, heq⟩ | ⟨⟨hrunning, hoverflow, hrecord⟩, -⟩ := compareDigest_cases src b u
  · exact heq
  · obtain hstation | hrequested | hset := h
    · exact absurd hrunning hstation
    · exact absurd hrequested hrecord
    · exact absurd (hset.symm.trans hoverflow) (by decide)

/-- Settles O46: the acts but for the comparison give the roster, the table and the phase, and the comparison the rest. -/
theorem presenceIsCheckedAndCompared : Obligations.PresenceIsCheckedAndCompared := by
  intro s src b h hme _
  obtain ⟨hactive, -, -⟩ := of_receives h
  obtain ⟨u, hu, heq⟩ := receivePresence_eq (Config.orders s.draws) src b s
  obtain ⟨hcontrol, hrepair, hlink, hoverflow, htable⟩ := comparisonState_frame hu
  have hexec : exec (.presenceDelivered src b) s = .next (finish (s.present src b u)) :=
    (congrArg Host.Outcome.next (whenActive_deliver_other (own := fun _ => id) (other := fun o => receivePresence o src b) h hme)).trans
      (congrArg (fun t => Host.Outcome.next (finish t)) heq)
  refine ⟨_, hexec, ?_⟩
  have hlooked := (finish_looked (s.present src b u)).1
  have hmember : (finish (s.present src b u)).member src = (s.checked src b).member src :=
    congrArg (fun r : Roster => r.entries[src.index]) (hlooked.roster.trans (present_roster ..))
  have hrecord (m : StationNo) : (finish (s.present src b u)).repairOf m = (compareDigest src b u).repairOf m :=
    repairOf_of_repair (hlooked.repair.trans (present_repair ..)) m
  have hlane : (finish (s.present src b u)).link.lanes.repair = (compareDigest src b u).link.lanes.repair :=
    hlooked.repairLane.trans (by rw [present_link])
  have hbefore : u.link.lanes.repair = s.link.lanes.repair := by rw [hlink]; rfl
  have hrecordBefore (m : StationNo) : u.repairOf m = s.repairOf m := repairOf_of_repair hrepair m
  have hleaves (hrestart : s.restarts src b.restartCount) : s.leavesTable (s.withoutOwner src) (finish (s.present src b u)) := by
    have hsettles := (present_settlesOn (src := src) (b := b) hlink).finish
    rw [checked_table_of_restart _ _ _ hrestart] at hsettles
    exact hsettles.leavesTable (by decide)
  have hkept (hpre : u.control.station ≠ .running ∨ (u.repairOf src).state = .requested ∨ u.table.overflow = true) :
      (finish (s.present src b u)).repairOf src = s.repairOf src ∧
        (finish (s.present src b u)).link.lanes.repair = s.link.lanes.repair := by
    rw [hrecord, hlane, compareDigest_of_precluded hpre, hrecordBefore, hbefore]
    exact ⟨rfl, rfl⟩
  have hphase : (finish (s.present src b u)).ann.phase = (s.present src b u).ann.phase := by
    obtain ⟨horn, readback, hann⟩ := hlooked.ann
    rw [hann]
  have hreference : (finish (s.present src b u)).cadenceReference = (s.present src b u).cadenceReference :=
    cadenceReference_congr hlooked.control hlooked.roster
  refine ⟨by rw [hmember, member_checked_self], by rw [hmember, member_checked_self], fun c hc hne => ?_,
    fun hpresent hsame hrunning hclear hnone => ?_, fun hstation => (hkept (.inl (by rwa [hcontrol]))).1, fun hpre => hkept ?_,
    fun m hm => ?_, ?_, ?_, ?_, ?_, ?_, ?_⟩
  · have hrestart : s.restarts src b.restartCount := ⟨c, hc, hne⟩
    obtain ⟨hentries, hslots⟩ := withoutOwner_none s src
    obtain ⟨hnoEntry, hnoSlot⟩ := (hleaves hrestart).none_of hme hentries hslots
    exact ⟨hnoEntry, hnoSlot, hleaves hrestart⟩
  · have hno : ¬s.restarts src b.restartCount := fun ⟨c, hc, hne⟩ => hne (Option.some.inj (hc.symm.trans hsame))
    have hcompared := compareDigest_of_compared (src := src) (b := b) (u := u) ((active_of_control hcontrol).trans hactive)
      (by rwa [hcontrol]) (by rwa [hoverflow hno]) (by rwa [hrecordBefore])
    rw [htable hpresent hno, hbefore] at hcompared
    rw [hrecord, hlane]
    exact hcompared
  · obtain hstation | hrequested | ⟨hset, hsame⟩ := hpre
    · exact .inl (by rwa [hcontrol])
    · exact .inr (.inl (by rwa [hrecordBefore]))
    · refine .inr (.inr ?_)
      rwa [hoverflow fun ⟨c, hc, hne⟩ => hne (hsame c hc)]
  · rw [hrecord, compareDigest_others b u hm, hrecordBefore]
  · rw [hphase, hreference]
    exact (present_phase src b s u).1
  · rw [hphase, hreference]
    exact (present_phase src b s u).2
  · exact hlooked.control.trans (present_control ..)
  · exact hlooked.monitor.trans (present_monitor ..)
  · exact hlooked.service.trans (present_service ..)
  · exact hlooked.pins.trans (present_pins ..)

end Sys2Proof.Machine

/-! PROOFS. What a DUMP's steps leave of other owners, and its first step (R43, R54). -/

namespace Sys2Proof.Machine

/-! ### The slots name entries of their groups (R51), whatever the flags are -/

/-- A table with its flags clear. -/
def AlarmTable.unflagged (t : AlarmTable) : AlarmTable := { t with overflow := false, tableOverflow := false }

theorem lawful_unflagged {me : Option StationNo} {t : AlarmTable} (h : tableLaw me t ∧ slotLaw t) : lawful me t.unflagged :=
  ⟨h.1, h.2, rfl, nofun⟩

/-- R34 and R51 are kept by every primitive change, also where OVERFLOW is not lawful. -/
theorem tableKeeps_slotLaw (me : Option StationNo) : TableKeeps me (fun t => tableLaw me t ∧ slotLaw t) where
  remove c ch h := by
    refine ⟨(tableKeeps_tableLaw me).remove c ch h.1, ?_⟩
    cases hfind : ch.table.find c with
    | none => rw [removeEntry_of_none hfind]; exact h.2
    | some e =>
      obtain ⟨-, hslot, -⟩ := lawful_remove (c := c) (ch := ⟨ch.table.unflagged, ch.notices⟩) (lawful_unflagged h)
      rw [removeEntry_table_of_find (ch := ⟨ch.table.unflagged, ch.notices⟩) hfind] at hslot
      rw [removeEntry_table_of_find hfind]
      exact hslot
  rewrite e f ch hf he h :=
    ⟨(tableKeeps_tableLaw me).rewrite e f ch hf he h.1,
      (lawful_rewrite (ch := ⟨ch.table.unflagged, ch.notices⟩) hf he (lawful_unflagged h)).2.1⟩
  create give src r st ch hnone h := by
    refine ⟨tableLaw_create hnone h.1, ?_⟩
    obtain ⟨-, hslot, -⟩ := lawful_create (give := give) (src := src) (r := r) (st := st)
      (ch := ⟨ch.table.unflagged, ch.notices⟩) hnone (lawful_unflagged h)
    obtain ⟨-, heq⟩ | ⟨hroom, heq⟩ := createEntry_cases me give src r st ch
    · rw [heq]
      exact h.2
    · obtain ⟨hfull, -⟩ | ⟨-, heq'⟩ := createEntry_cases me give src r st ⟨ch.table.unflagged, ch.notices⟩
      · exact absurd hfull hroom
      · rw [heq'] at hslot
        rw [heq]
        exact hslot
  give e ch he h := by
    obtain ⟨htable, hslot, -⟩ := lawful_give (ch := ⟨ch.table.unflagged, ch.notices⟩) he (lawful_unflagged h)
    rw [giveSlotTo_table] at htable hslot ⊢
    exact ⟨htable, hslot⟩
  empty q t h :=
    have hempty := lawful_empty q (lawful_unflagged h)
    ⟨hempty.1, hempty.2.1⟩
  stale b n t h :=
    have hstale := lawful_stale b n (lawful_unflagged h)
    ⟨hstale.1, hstale.2.1⟩

/-! ### What a change of an owner's entries leaves of the others -/

/-- The entries of the other owners stay in order, no slot is given, and their slots stay. -/
def AlarmTable.keepsOthers (n : StationNo) (t u : AlarmTable) : Prop :=
  u.entries.filter (fun e => decide (e.owner ≠ n)) = t.entries.filter (fun e => decide (e.owner ≠ n)) ∧
    (∀ (g : GroupNo) (c : Condition), u.slots[g] = some c → t.slots[g] = some c) ∧
    ∀ (g : GroupNo) (c : Condition), c.owner ≠ n → t.slots[g] = some c → u.slots[g] = some c

theorem AlarmTable.keepsOthers_refl (n : StationNo) (t : AlarmTable) : t.keepsOthers n t := ⟨rfl, fun _ _ h => h, fun _ _ _ h => h⟩

theorem AlarmTable.keepsOthers_trans {n : StationNo} {t u v : AlarmTable} (h : t.keepsOthers n u) (h' : u.keepsOthers n v) :
    t.keepsOthers n v := by
  obtain ⟨hentries, hslots, hkept⟩ := h
  obtain ⟨hentries', hslots', hkept'⟩ := h'
  exact ⟨hentries'.trans hentries, fun g c hc => hslots g c (hslots' g c hc), fun g c hn hc => hkept' g c hn (hkept g c hn hc)⟩

theorem removeEntry_keepsOthers (me : Option StationNo) (c : Condition) (ch : Change) :
    ch.table.keepsOthers c.owner (removeEntry me c ch).table := by
  cases hf : ch.table.find c with
  | none => rw [removeEntry_of_none hf]; exact ch.table.keepsOthers_refl _
  | some e =>
    rw [removeEntry_table_of_find hf]
    refine ⟨?_, fun g d hd => ?_, fun g d hn hd => ?_⟩
    · exact filter_apartFrom_removed c.owner c.point _
    · rw [slotsWithout, slots_map_get] at hd
      split at hd
      · cases hd
      · exact hd
    · rw [slotsWithout, slots_map_get, hd, if_neg fun h => hn (congrArg Condition.owner (Option.some.inj h))]

theorem rewriteEntry_keepsOthers (e : Entry) {f : Entry → Entry} (hf : ∀ x, (f x).condition = x.condition) (ch : Change) :
    ch.table.keepsOthers e.owner (rewriteEntry e f ch).table := by
  refine ⟨?_, fun g c hc => rewriteEntry_slot hc, fun g c hn hc => ?_⟩
  · exact filter_rewritten (q := fun c => decide (c.owner ≠ e.owner)) (c := e.condition) (by simp [Entry.condition]) hf _
  · rw [rewriteEntry_slots]
    split
    · next hmoved =>
      rw [slots_set_get, if_neg ?_, hc]
      rintro rfl
      exact hn (congrArg Condition.owner (Option.some.inj (hc.symm.trans hmoved.2)))
    · exact hc

theorem createEntry_keepsOthers (me : Option StationNo) (src : StationNo) (r : PointReport) (st : EntryState) (ch : Change) :
    ch.table.keepsOthers src (createEntry me false src r st ch).table := by
  obtain ⟨-, heq⟩ | ⟨-, heq⟩ := createEntry_cases me false src r st ch <;> rw [heq]
  · exact ⟨rfl, fun _ _ h => h, fun _ _ _ h => h⟩
  · refine ⟨?_, fun g c hc => by simpa using hc, fun g c _ hc => by simpa using hc⟩
    simp [List.filter_append, newEntry]

theorem applyContents_keepsOthers (me : Option StationNo) (src : StationNo) (r : PointReport) (ch : Change) :
    ch.table.keepsOthers src (applyContents me false src r ch).table := by
  unfold applyContents
  split
  · exact removeEntry_keepsOthers me ⟨src, r.point⟩ ch
  · next st _ =>
    split
    · next e he =>
      unfold updateEntry
      split
      · exact ch.table.keepsOthers_refl src
      · have howner : e.owner = src := owner_of_find he
        exact howner ▸ rewriteEntry_keepsOthers e (f := fun x => x.take r st) (fun _ => rfl) ch
    · exact createEntry_keepsOthers me src r st ch

theorem removeAll_keepsOthers (me : Option StationNo) {n : StationNo} (cs : List Condition) (hcs : ∀ c ∈ cs, c.owner = n) (ch : Change) :
    ch.table.keepsOthers n (removeAll me cs ch).table := by
  induction cs generalizing ch with
  | nil => exact ch.table.keepsOthers_refl n
  | cons c cs ih =>
    obtain ⟨hc, hrest⟩ := List.forall_mem_cons.mp hcs
    exact AlarmTable.keepsOthers_trans (hc ▸ removeEntry_keepsOthers me c ch) (ih hrest _)

theorem alignRecord_cases (src : StationNo) (ch : Change) (r : DumpRecord) :
    alignRecord src ch r = ch ∧ (∀ e, ch.table.find ⟨src, r.point⟩ = some e → e.takeOptions r = e) ∨
      ∃ e, ch.table.find ⟨src, r.point⟩ = some e ∧ alignRecord src ch r = rewriteEntry e (fun x => x.takeOptions r) ch := by
  unfold alignRecord
  split
  · next e he =>
    split
    · next hsame => exact .inl ⟨rfl, fun x hx => Option.some.inj (he.symm.trans hx) ▸ hsame⟩
    · exact .inr ⟨e, he, rfl⟩
  · next hnone => exact .inl ⟨rfl, fun x hx => nomatch hnone.symm.trans hx⟩

theorem alignRecord_keepsOthers (src : StationNo) (ch : Change) (r : DumpRecord) :
    ch.table.keepsOthers src (alignRecord src ch r).table := by
  obtain ⟨heq, -⟩ | ⟨e, he, heq⟩ := alignRecord_cases src ch r <;> rw [heq]
  · exact ch.table.keepsOthers_refl src
  · have howner : e.owner = src := owner_of_find he
    exact howner ▸ rewriteEntry_keepsOthers e (f := fun x => x.takeOptions r) (fun _ => rfl) ch

/-! ### The records in turn (R43) -/

/-- The records of a DUMP name each point once (R108). -/
def recordsOnce (records : List DumpRecord) : Prop := (records.map DumpRecord.point).Nodup

theorem recordsOnce_cons {r : DumpRecord} {rest : List DumpRecord} (h : recordsOnce (r :: rest)) :
    (∀ x ∈ rest, x.point ≠ r.point) ∧ recordsOnce rest := by
  rw [recordsOnce, List.map_cons, List.nodup_cons] at h
  refine ⟨fun x hx heq => h.1 ?_, h.2⟩
  rw [← heq]
  exact List.mem_map_of_mem hx

theorem entryState?_dumpReport (r : DumpRecord) : entryState? (dumpReport r).state = some r.state := by
  show entryState? (seqOf r.state) = some r.state
  cases r.state <;> rfl

theorem dumpApply_cons (me : Option StationNo) (src : StationNo) (r : DumpRecord) (rest : List DumpRecord) (ch : Change) :
    dumpApply me src (r :: rest) ch = dumpApply me src rest (applyContents me false src (dumpReport r) ch) := rfl

theorem dumpApply_keepsOthers (me : Option StationNo) (src : StationNo) (records : List DumpRecord) (ch : Change) :
    ch.table.keepsOthers src (dumpApply me src records ch).table := by
  induction records generalizing ch with
  | nil => exact ch.table.keepsOthers_refl src
  | cons r rest ih => exact AlarmTable.keepsOthers_trans (applyContents_keepsOthers me src (dumpReport r) ch) (ih _)

theorem find_dumpApply_of_unlisted {me : Option StationNo} {src : StationNo} {records : List DumpRecord} {c : Condition}
    (h : ∀ r ∈ records, c ≠ ⟨src, r.point⟩) (ch : Change) : (dumpApply me src records ch).table.find c = ch.table.find c := by
  induction records generalizing ch with
  | nil => rfl
  | cons r rest ih =>
    obtain ⟨hr, hrest⟩ := List.forall_mem_cons.mp h
    rw [dumpApply_cons, ih hrest]
    exact find_applyContents_of_ne ch hr

/-- One record: its entry in its state, or its drop, counted, with the flags set and no shared place left (R38, R39, R54). -/
theorem applyRecord_cases (me : Option StationNo) (src : StationNo) (r : DumpRecord) (ch : Change) :
    ((∃ e, (applyContents me false src (dumpReport r) ch).table.find ⟨src, r.point⟩ = some e ∧ e.state = r.state ∧
          e.revision = r.revision) ∧
        (applyContents me false src (dumpReport r) ch).table.dropped = ch.table.dropped ∧
        (applyContents me false src (dumpReport r) ch).table.overflow = ch.table.overflow ∧
        (applyContents me false src (dumpReport r) ch).table.tableOverflow = ch.table.tableOverflow ∧
        occupancy me (applyContents me false src (dumpReport r) ch).table.entries ≤ occupancy me ch.table.entries + 1) ∨
      ((applyContents me false src (dumpReport r) ch).table.find ⟨src, r.point⟩ = none ∧
        applyContents me false src (dumpReport r) ch = dropEntry ch ∧ me ≠ some src ∧ 111 ≤ occupancy me ch.table.entries) := by
  have hs := entryState?_dumpReport r
  cases hf : ch.table.find ⟨src, r.point⟩ with
  | some e =>
    have hfind := find_applyContents_some (me := me) (give := false) (src := src) (ch := ch) hs (.inr (.inl (by rw [show (dumpReport r).point = r.point from rfl, hf]; rfl)))
    refine .inl ⟨hfind, ?_⟩
    rw [applyContents_of_held (me := me) (give := false) hs hf, updateEntry]
    split
    · exact ⟨rfl, rfl, rfl, Nat.le_succ _⟩
    · refine ⟨rfl, rfl, rfl, ?_⟩
      rw [occupancy_congr (rewriteEntry_conditions e (fun x => x.take (dumpReport r) r.state) ch fun _ => rfl)]
      exact Nat.le_succ _
  | none =>
    have hnew := applyContents_of_new (me := me) (give := false) hs hf
    obtain ⟨⟨hother, hfull⟩, heq⟩ | ⟨hroom, heq⟩ := createEntry_cases me false src (dumpReport r) r.state ch
    · refine .inr ⟨?_, hnew.trans heq, fun h => hother h.symm, hfull⟩
      rw [hnew, heq]
      exact hf
    · have hplace : some src = me ∨ (ch.table.find ⟨src, (dumpReport r).point⟩).isSome = true ∨
          occupancy me ch.table.entries < sharedPlaces := by
        by_cases hown : some src = me
        · exact .inl hown
        · exact .inr (.inr (Nat.lt_of_not_le fun hfull => hroom ⟨hown, hfull⟩))
      refine .inl ⟨find_applyContents_some hs hplace, ?_⟩
      rw [hnew, heq]
      refine ⟨rfl, rfl, rfl, ?_⟩
      dsimp only
      rw [occupancy_append_single]
      split <;> omega

section
variable {me : Option StationNo} {src : StationNo}

/-- A record that has an entry after the first step has it in its state and at its revision (R43). -/
theorem find_dumpApply_listed {records : List DumpRecord} (honce : recordsOnce records) (ch : Change) :
    ∀ r ∈ records, ∀ e, (dumpApply me src records ch).table.find ⟨src, r.point⟩ = some e → e.state = r.state ∧ e.revision = r.revision := by
  induction records generalizing ch with
  | nil => exact fun _ h => absurd h List.not_mem_nil
  | cons r rest ih =>
    obtain ⟨hapart, hrest⟩ := recordsOnce_cons honce
    rw [dumpApply_cons]
    refine List.forall_mem_cons.mpr ⟨fun e he => ?_, ih hrest _⟩
    rw [find_dumpApply_of_unlisted fun x hx h => hapart x hx (congrArg Condition.point h).symm] at he
    obtain ⟨⟨x, hx, hstate, hrevision⟩, -⟩ | ⟨hnone, -⟩ := applyRecord_cases me src r ch
    · exact Option.some.inj (hx.symm.trans he) ▸ ⟨hstate, hrevision⟩
    · exact nomatch hnone.symm.trans he

/-- Each record without an entry has been counted dropped (R54). -/
theorem dropped_dumpApply {records : List DumpRecord} (honce : recordsOnce records) (ch : Change) :
    (dumpApply me src records ch).table.dropped =
      Counter.bumpBy (records.filter (fun r => ((dumpApply me src records ch).table.find ⟨src, r.point⟩).isNone)).length
        ch.table.dropped := by
  induction records generalizing ch with
  | nil => rfl
  | cons r rest ih =>
    obtain ⟨hapart, hrest⟩ := recordsOnce_cons honce
    have hself : (dumpApply me src rest (applyContents me false src (dumpReport r) ch)).table.find ⟨src, r.point⟩ =
        (applyContents me false src (dumpReport r) ch).table.find ⟨src, r.point⟩ :=
      find_dumpApply_of_unlisted (fun x hx h => hapart x hx (congrArg Condition.point h).symm) _
    rw [dumpApply_cons, ih hrest, List.filter_cons, hself]
    obtain ⟨⟨e, he, -⟩, hdropped, -⟩ | ⟨hnone, heq, -⟩ := applyRecord_cases me src r ch
    · rw [he, hdropped]
      rfl
    · rw [hnone, heq]
      rfl

/-- Where there is room for all, or the DUMP is the own one, none is dropped (R34, R54). -/
theorem isSome_dumpApply_of_room {records : List DumpRecord} (honce : recordsOnce records) (ch : Change)
    (hroom : me = some src ∨ occupancy me ch.table.entries + records.length ≤ 111) :
    ∀ r ∈ records, ((dumpApply me src records ch).table.find ⟨src, r.point⟩).isSome = true := by
  induction records generalizing ch with
  | nil => exact fun _ h => absurd h List.not_mem_nil
  | cons r rest ih =>
    obtain ⟨hapart, hrest⟩ := recordsOnce_cons honce
    rw [List.length_cons] at hroom
    rw [dumpApply_cons]
    obtain ⟨⟨e, he, -⟩, -, -, -, hgrown⟩ | ⟨-, -, hother, hfull⟩ := applyRecord_cases me src r ch
    · refine List.forall_mem_cons.mpr ⟨?_, ih hrest _ ?_⟩
      · rw [find_dumpApply_of_unlisted fun x hx h => hapart x hx (congrArg Condition.point h).symm, he]
        rfl
      · exact hroom.imp id fun h => by omega
    · exact absurd (hroom.resolve_left hother) (by omega)

/-- The first step clears no flag (R43, R55). -/
theorem flags_dumpApply_of_set {records : List DumpRecord} (ch : Change) (h : ch.table.overflow = true ∧ ch.table.tableOverflow = true) :
    (dumpApply me src records ch).table.overflow = true ∧ (dumpApply me src records ch).table.tableOverflow = true := by
  induction records generalizing ch with
  | nil => exact h
  | cons r rest ih =>
    rw [dumpApply_cons]
    refine ih _ ?_
    obtain ⟨-, -, hover, htable, -⟩ | ⟨-, heq, -⟩ := applyRecord_cases me src r ch
    · rw [hover, htable]
      exact h
    · rw [heq]
      exact ⟨rfl, rfl⟩

/-- A drop sets both flags (R54). -/
theorem flags_dumpApply_of_dropped {records : List DumpRecord} (honce : recordsOnce records) (ch : Change)
    (h : ∃ r ∈ records, (dumpApply me src records ch).table.find ⟨src, r.point⟩ = none) :
    (dumpApply me src records ch).table.overflow = true ∧ (dumpApply me src records ch).table.tableOverflow = true := by
  induction records generalizing ch with
  | nil => exact absurd h (by simp)
  | cons r rest ih =>
    obtain ⟨hapart, hrest⟩ := recordsOnce_cons honce
    rw [dumpApply_cons] at h ⊢
    obtain ⟨x, hx, hnone⟩ := h
    obtain rfl | hin := List.mem_cons.mp hx
    · rw [find_dumpApply_of_unlisted fun x hx h => hapart x hx (congrArg Condition.point h).symm] at hnone
      obtain ⟨⟨e, he, -⟩, -⟩ | ⟨-, heq, -⟩ := applyRecord_cases me src x ch
      · exact nomatch he.symm.trans hnone
      · exact flags_dumpApply_of_set _ (heq ▸ ⟨rfl, rfl⟩)
    · exact ih hrest _ ⟨x, hin, hnone⟩

end

end Sys2Proof.Machine

/-! PROOFS. A DUMP replaces its source (R43 to R46, R54, R139). -/

namespace Sys2Proof.Machine

theorem find_congr {t u : AlarmTable} (h : u.entries = t.entries) (c : Condition) : u.find c = t.find c := by
  rw [AlarmTable.find, AlarmTable.find, h]

/-! ### The entries that are not listed (R44) -/

theorem find_removeAll {me : Option StationNo} {cs : List Condition} {c : Condition} (h : c ∉ cs) (ch : Change) :
    (removeAll me cs ch).table.find c = ch.table.find c := by
  induction cs generalizing ch with
  | nil => rfl
  | cons d cs ih =>
    rw [List.mem_cons, not_or] at h
    rw [removeAll_cons, ih h.2, find_removeEntry, if_neg h.1]

/-- The conditions that the second step removes. -/
def unlisted (src : StationNo) (records : List DumpRecord) (entries : List Entry) : List Condition :=
  (conditionsOf src entries).filter (fun c => !records.any (fun r => r.point == c.point))

theorem dumpRemove_eq (me : Option StationNo) (src : StationNo) (records : List DumpRecord) (ch : Change) :
    dumpRemove me src records ch = removeAll me (unlisted src records ch.table.entries) ch := rfl

theorem owner_of_mem_unlisted {src : StationNo} {records : List DumpRecord} {entries : List Entry} {c : Condition}
    (h : c ∈ unlisted src records entries) : c.owner = src := owner_of_mem_conditionsOf (List.mem_of_mem_filter h)

theorem find_dumpRemove_listed {me : Option StationNo} {src : StationNo} {records : List DumpRecord} {r : DumpRecord} (hr : r ∈ records)
    (ch : Change) : (dumpRemove me src records ch).table.find ⟨src, r.point⟩ = ch.table.find ⟨src, r.point⟩ := by
  refine find_removeAll (fun h => ?_) ch
  have hnot := List.of_mem_filter h
  rw [Bool.not_eq_true', List.any_eq_false] at hnot
  exact hnot r hr (beq_self_eq_true _)

theorem listed_of_mem_dumpRemove {me : Option StationNo} {src : StationNo} {records : List DumpRecord} {ch : Change} {e : Entry}
    (h : e ∈ (dumpRemove me src records ch).table.entries) (ho : e.owner = src) : ∃ r ∈ records, r.point = e.point := by
  rw [dumpRemove_eq, mem_removeAll_entries] at h
  obtain ⟨he, hkept⟩ := h
  by_contra hnone
  refine hkept (List.mem_filter.mpr ⟨(mem_conditionsOf he).mpr ho, ?_⟩)
  rw [Bool.not_eq_true', List.any_eq_false]
  exact fun r hr heq => hnone ⟨r, hr, beq_iff_eq.mp heq⟩

/-! ### The owner's groups and options (R46, R139) -/

theorem find_alignRecord_self (src : StationNo) (ch : Change) (r : DumpRecord) :
    (alignRecord src ch r).table.find ⟨src, r.point⟩ = (ch.table.find ⟨src, r.point⟩).map (fun e => e.takeOptions r) := by
  obtain ⟨heq, hsame⟩ | ⟨e, he, heq⟩ := alignRecord_cases src ch r <;> rw [heq]
  · cases hf : ch.table.find ⟨src, r.point⟩ with
    | none => rfl
    | some e => rw [Option.map_some, hsame e hf]
  · rw [find_rewriteEntry e (fun x => x.takeOptions r) ch (fun _ => rfl), he, Option.map_some, Option.map_some, if_pos rfl]

theorem find_alignRecord_of_ne {src : StationNo} {ch : Change} {r : DumpRecord} {c : Condition} (h : c ≠ ⟨src, r.point⟩) :
    (alignRecord src ch r).table.find c = ch.table.find c := by
  obtain ⟨heq, -⟩ | ⟨e, he, heq⟩ := alignRecord_cases src ch r <;> rw [heq]
  rw [find_rewriteEntry e (fun x => x.takeOptions r) ch (fun _ => rfl)]
  cases hf : ch.table.find c with
  | none => rfl
  | some x =>
    have hx : x.condition ≠ e.condition := by rwa [condition_of_find hf, condition_of_find he]
    rw [Option.map_some, if_neg hx]

theorem dumpAlign_cons (src : StationNo) (r : DumpRecord) (rest : List DumpRecord) (ch : Change) :
    dumpAlign src (r :: rest) ch = dumpAlign src rest (alignRecord src ch r) := rfl

theorem find_dumpAlign_of_unlisted {src : StationNo} {records : List DumpRecord} {c : Condition} (h : ∀ r ∈ records, c ≠ ⟨src, r.point⟩)
    (ch : Change) : (dumpAlign src records ch).table.find c = ch.table.find c := by
  induction records generalizing ch with
  | nil => rfl
  | cons r rest ih =>
    obtain ⟨hr, hrest⟩ := List.forall_mem_cons.mp h
    rw [dumpAlign_cons, ih hrest, find_alignRecord_of_ne hr]

theorem find_dumpAlign_listed {src : StationNo} {records : List DumpRecord} (honce : recordsOnce records) (ch : Change) :
    ∀ r ∈ records, (dumpAlign src records ch).table.find ⟨src, r.point⟩ = (ch.table.find ⟨src, r.point⟩).map (fun e => e.takeOptions r) := by
  induction records generalizing ch with
  | nil => exact fun _ h => absurd h List.not_mem_nil
  | cons r rest ih =>
    obtain ⟨hapart, hrest⟩ := recordsOnce_cons honce
    rw [dumpAlign_cons]
    refine List.forall_mem_cons.mpr ⟨?_, fun x hx => ?_⟩
    · rw [find_dumpAlign_of_unlisted fun x hx h => hapart x hx (congrArg Condition.point h).symm, find_alignRecord_self]
    · rw [ih hrest _ x hx, find_alignRecord_of_ne fun h => hapart x hx (congrArg Condition.point h)]

theorem dumpAlign_keepsOthers (src : StationNo) (records : List DumpRecord) (ch : Change) :
    ch.table.keepsOthers src (dumpAlign src records ch).table := by
  induction records generalizing ch with
  | nil => exact ch.table.keepsOthers_refl src
  | cons r rest ih => exact AlarmTable.keepsOthers_trans (alignRecord_keepsOthers src ch r) (ih _)

/-! ### The steps before the slots are given -/

/-- The first two steps of a DUMP and the correction of groups and options. -/
def dumpHeld (me : Option StationNo) (src : StationNo) (records : List DumpRecord) (ch : Change) : Change :=
  dumpAlign src records (dumpRemove me src records (dumpApply me src records ch))

section
variable {me : Option StationNo} {src : StationNo} {records : List DumpRecord} (ch : Change)

theorem dumpHeld_keepsOthers : ch.table.keepsOthers src (dumpHeld me src records ch).table :=
  AlarmTable.keepsOthers_trans (dumpApply_keepsOthers me src records ch) (AlarmTable.keepsOthers_trans
    (removeAll_keepsOthers me (unlisted src records _) (fun _ => owner_of_mem_unlisted) _) (dumpAlign_keepsOthers src records _))

theorem find_dumpHeld (honce : recordsOnce records) {r : DumpRecord} (hr : r ∈ records) :
    (dumpHeld me src records ch).table.find ⟨src, r.point⟩ =
      ((dumpApply me src records ch).table.find ⟨src, r.point⟩).map (fun e => e.takeOptions r) := by
  rw [dumpHeld, find_dumpAlign_listed honce _ r hr, find_dumpRemove_listed hr]

theorem dumpHeld_conditions :
    (dumpHeld me src records ch).table.entries.map Entry.condition =
      (dumpRemove me src records (dumpApply me src records ch)).table.entries.map Entry.condition :=
  (dumpAlign_keeps src records _).1

theorem listed_of_mem_dumpHeld {e : Entry} (h : e ∈ (dumpHeld me src records ch).table.entries) (ho : e.owner = src) :
    ∃ r ∈ records, r.point = e.point := by
  have hcond : e.condition ∈ (dumpRemove me src records (dumpApply me src records ch)).table.entries.map Entry.condition :=
    dumpHeld_conditions ch ▸ List.mem_map_of_mem h
  obtain ⟨x, hx, heq⟩ := List.mem_map.mp hcond
  obtain ⟨r, hr, hpoint⟩ := listed_of_mem_dumpRemove hx ((congrArg Condition.owner heq).trans ho)
  exact ⟨r, hr, hpoint.trans (congrArg Condition.point heq)⟩

theorem dumpHeld_dropped : (dumpHeld me src records ch).table.dropped = (dumpApply me src records ch).table.dropped := by
  obtain ⟨-, hdropped, -⟩ := dumpAlign_keeps src records (dumpRemove me src records (dumpApply me src records ch))
  obtain ⟨-, -, hdropped'⟩ := removeAll_flags me (unlisted src records (dumpApply me src records ch).table.entries)
    (dumpApply me src records ch)
  exact hdropped.trans hdropped'

/-- A drop leaves both flags set, but for a removal that leaves 83 shared places or fewer taken (R54, R55). -/
theorem dumpHeld_flags_of_dropped (honce : recordsOnce records)
    (h : ∃ r ∈ records, (dumpApply me src records ch).table.find ⟨src, r.point⟩ = none) :
    ((dumpHeld me src records ch).table.overflow = true ∧ (dumpHeld me src records ch).table.tableOverflow = true) ∨
      occupancy me (dumpHeld me src records ch).table.entries ≤ 83 := by
  obtain ⟨hconditions, -, hover, htable⟩ := dumpAlign_keeps src records (dumpRemove me src records (dumpApply me src records ch))
  obtain ⟨hover', htable', -⟩ := removeAll_flags me (unlisted src records (dumpApply me src records ch).table.entries)
    (dumpApply me src records ch)
  obtain ⟨hset, hset'⟩ := flags_dumpApply_of_dropped honce ch h
  rw [hset, Bool.true_and] at hover'
  rw [hset', Bool.true_and] at htable'
  rw [dumpHeld, hover, htable, occupancy_congr hconditions, dumpRemove_eq, hover', htable', and_self]
  by_cases hmany : 84 ≤ occupancy me (removeAll me (unlisted src records (dumpApply me src records ch).table.entries)
      (dumpApply me src records ch)).table.entries
  · exact .inl (decide_eq_true (.inr hmany))
  · exact .inr (by omega)

end

/-! ### The slots that the fo flags give (R45) -/

/-- The slot that one record gives. -/
def giveRecord (src : StationNo) (ch : Change) (r : DumpRecord) : Change :=
  if r.fo then
    match ch.table.find ⟨src, r.point⟩ with
    | some e => giveSlotTo e.group ⟨src, r.point⟩ ch
    | none => ch
  else ch

theorem dumpGive_cons (src : StationNo) (r : DumpRecord) (rest : List DumpRecord) (ch : Change) :
    dumpGive src (r :: rest) ch = dumpGive src rest (giveRecord src ch r) := rfl

theorem dumpGive_append (src : StationNo) (before later : List DumpRecord) (ch : Change) :
    dumpGive src (before ++ later) ch = dumpGive src later (dumpGive src before ch) := List.foldl_append ..

theorem giveRecord_of_entry {src : StationNo} {ch : Change} {r : DumpRecord} {e : Entry} (hfo : r.fo = true)
    (h : ch.table.find ⟨src, r.point⟩ = some e) :
    (giveRecord src ch r).table = { ch.table with slots := ch.table.slots.set e.group (some ⟨src, r.point⟩) } := by
  rw [giveRecord, if_pos hfo, h]
  exact giveSlotTo_table e.group ⟨src, r.point⟩ ch

theorem giveRecord_of_none {src : StationNo} {ch : Change} {r : DumpRecord}
    (h : r.fo = true → ch.table.find ⟨src, r.point⟩ = none) : giveRecord src ch r = ch := by
  unfold giveRecord
  split
  · next hfo => rw [h hfo]
  · rfl

theorem giveRecord_cases (src : StationNo) (ch : Change) (r : DumpRecord) :
    (giveRecord src ch r = ch ∧ (r.fo = true → ch.table.find ⟨src, r.point⟩ = none)) ∨
      ∃ e, r.fo = true ∧ ch.table.find ⟨src, r.point⟩ = some e ∧
        (giveRecord src ch r).table = { ch.table with slots := ch.table.slots.set e.group (some ⟨src, r.point⟩) } := by
  by_cases hgives : r.fo = true → ch.table.find ⟨src, r.point⟩ = none
  · exact .inl ⟨giveRecord_of_none hgives, hgives⟩
  · rw [Classical.not_imp] at hgives
    obtain ⟨e, he⟩ := Option.ne_none_iff_exists'.mp hgives.2
    exact .inr ⟨e, hgives.1, he, giveRecord_of_entry hgives.1 he⟩

/-- The slots alone are given. -/
theorem dumpGive_frame (src : StationNo) (records : List DumpRecord) (ch : Change) :
    (dumpGive src records ch).table.entries = ch.table.entries ∧ (dumpGive src records ch).table.dropped = ch.table.dropped ∧
      (dumpGive src records ch).table.overflow = ch.table.overflow ∧
      (dumpGive src records ch).table.tableOverflow = ch.table.tableOverflow := by
  induction records generalizing ch with
  | nil => exact ⟨rfl, rfl, rfl, rfl⟩
  | cons r rest ih =>
    rw [dumpGive_cons]
    obtain ⟨hentries, hdropped, hover, htable⟩ := ih (giveRecord src ch r)
    rw [hentries, hdropped, hover, htable]
    obtain ⟨heq, -⟩ | ⟨e, -, -, heq⟩ := giveRecord_cases src ch r <;> rw [heq]
    · exact ⟨rfl, rfl, rfl, rfl⟩
    · exact ⟨rfl, rfl, rfl, rfl⟩

/-- A slot is given by a record with its fo flag, or stays. -/
theorem dumpGive_slot_cases (src : StationNo) (records : List DumpRecord) (ch : Change) (g : GroupNo) :
    (dumpGive src records ch).table.slots[g] = ch.table.slots[g] ∨
      ∃ r ∈ records, r.fo = true ∧ (dumpGive src records ch).table.slots[g] = some ⟨src, r.point⟩ := by
  induction records generalizing ch with
  | nil => exact .inl rfl
  | cons r rest ih =>
    rw [dumpGive_cons]
    obtain hkept | ⟨x, hx, hfo, hgiven⟩ := ih (giveRecord src ch r)
    · obtain ⟨heq, -⟩ | ⟨e, hfo, -, heq⟩ := giveRecord_cases src ch r
      · exact .inl (by rw [hkept, heq])
      · rw [heq, slots_set_get] at hkept
        split at hkept
        · exact .inr ⟨r, List.mem_cons_self, hfo, hkept⟩
        · exact .inl hkept
    · exact .inr ⟨x, List.mem_cons_of_mem r hx, hfo, hgiven⟩

/-- A slot that no record gives stays. -/
theorem dumpGive_slot_of_none {src : StationNo} {records : List DumpRecord} {ch : Change} {g : GroupNo}
    (h : ∀ r ∈ records, r.fo = true → ∀ e, ch.table.find ⟨src, r.point⟩ = some e → e.group ≠ g) :
    (dumpGive src records ch).table.slots[g] = ch.table.slots[g] := by
  induction records generalizing ch with
  | nil => rfl
  | cons r rest ih =>
    obtain ⟨hr, hrest⟩ := List.forall_mem_cons.mp h
    rw [dumpGive_cons]
    obtain ⟨heq, -⟩ | ⟨e, hfo, hfind, heq⟩ := giveRecord_cases src ch r
    · rw [heq]
      exact ih hrest
    · rw [ih fun x hx hxfo y hy => hrest x hx hxfo y ?_]
      · rw [heq, slots_set_get, if_neg fun hg => hr hfo e hfind hg.symm]
      · rw [← hy]
        exact (find_congr (by rw [heq]) _).symm

/-- The last record to give a slot holds it. -/
theorem dumpGive_slot_of_last {src : StationNo} {before later : List DumpRecord} {r : DumpRecord} {ch : Change} {e : Entry}
    {g : GroupNo} (hfo : r.fo = true) (hfind : ch.table.find ⟨src, r.point⟩ = some e) (hg : e.group = g)
    (hlater : ∀ x ∈ later, x.fo = true → ∀ y, ch.table.find ⟨src, x.point⟩ = some y → y.group ≠ g) :
    (dumpGive src (before ++ r :: later) ch).table.slots[g] = some ⟨src, r.point⟩ := by
  have hbefore (c : Condition) : (dumpGive src before ch).table.find c = ch.table.find c :=
    find_congr (dumpGive_frame src before ch).1 c
  have hgiven := giveRecord_of_entry (ch := dumpGive src before ch) hfo ((hbefore _).trans hfind)
  rw [dumpGive_append, dumpGive_cons, dumpGive_slot_of_none fun x hx hxfo y hy => hlater x hx hxfo y ?_]
  · rw [hgiven, slots_set_get, if_pos hg.symm]
  · rw [← hy, ← hbefore]
    exact (find_congr (by rw [hgiven]) _).symm

end Sys2Proof.Machine

/-! PROOFS. The table after a DUMP's five steps (R43 to R46, R54, R139). -/

namespace Sys2Proof.Machine

section
variable {me : Option StationNo} {src : StationNo} {records : List DumpRecord} (ch : Change)

theorem applyDump_entries :
    (applyDump me src records ch).table.entries = staleAs false src (dumpHeld me src records ch).table.entries :=
  congrArg (staleAs false src) (dumpGive_frame src records (dumpHeld me src records ch)).1

theorem applyDump_flags :
    (applyDump me src records ch).table.dropped = (dumpHeld me src records ch).table.dropped ∧
      (applyDump me src records ch).table.overflow = (dumpHeld me src records ch).table.overflow ∧
      (applyDump me src records ch).table.tableOverflow = (dumpHeld me src records ch).table.tableOverflow :=
  (dumpGive_frame src records (dumpHeld me src records ch)).2

theorem applyDump_slot (g : GroupNo) :
    (applyDump me src records ch).table.slots[g] =
      if ((dumpGive src records (dumpHeld me src records ch)).table.slots[g]).any (listedClear src records) then none
      else (dumpGive src records (dumpHeld me src records ch)).table.slots[g] :=
  slots_map_get (dumpGive src records (dumpHeld me src records ch)).table.slots
    (fun h => if h.any (listedClear src records) then none else h) g

theorem find_applyDump (c : Condition) :
    (applyDump me src records ch).table.find c =
      ((dumpHeld me src records ch).table.find c).map (fun e => if e.owner = src then { e with stale := false } else e) := by
  rw [← find_staleAs]
  exact find_congr (applyDump_entries ch) c

theorem occupancy_applyDump :
    occupancy me (applyDump me src records ch).table.entries = occupancy me (dumpHeld me src records ch).table.entries := by
  rw [applyDump_entries, occupancy_congr (conditions_staleAs false src _)]

/-- A record has an entry afterwards exactly where the first step left it one. -/
theorem find_applyDump_listed (honce : recordsOnce records) {r : DumpRecord} (hr : r ∈ records) :
    (applyDump me src records ch).table.find ⟨src, r.point⟩ =
      ((dumpApply me src records ch).table.find ⟨src, r.point⟩).map (fun e => { e.takeOptions r with stale := false }) := by
  rw [find_applyDump, find_dumpHeld ch honce hr]
  cases hf : (dumpApply me src records ch).table.find ⟨src, r.point⟩ with
  | none => rfl
  | some e => rw [Option.map_some, Option.map_some, Option.map_some, if_pos (show (e.takeOptions r).owner = src from owner_of_find hf)]

theorem isNone_find_applyDump (honce : recordsOnce records) {r : DumpRecord} (hr : r ∈ records) :
    ((applyDump me src records ch).table.find ⟨src, r.point⟩).isNone =
      ((dumpApply me src records ch).table.find ⟨src, r.point⟩).isNone := by
  rw [find_applyDump_listed ch honce hr, Option.isNone_map]

/-- What a held record's entry reads (R43, R46, R139). -/
theorem applyDump_record (honce : recordsOnce records) {r : DumpRecord} (hr : r ∈ records) {e : Entry}
    (he : (applyDump me src records ch).table.find ⟨src, r.point⟩ = some e) :
    e.state = r.state ∧ e.revision = r.revision ∧ e.stale = false ∧ e.group = r.group ∧ e.foEligible = r.foEligible ∧
      e.audible = r.audible := by
  rw [find_applyDump_listed ch honce hr, Option.map_eq_some_iff] at he
  obtain ⟨x, hx, rfl⟩ := he
  obtain ⟨hstate, hrevision⟩ := find_dumpApply_listed honce ch r hr x hx
  exact ⟨hstate, hrevision, rfl, rfl, rfl, rfl⟩

/-- R46: every entry of the source is a record's, and is not stale. -/
theorem applyDump_own {e : Entry} (h : e ∈ (applyDump me src records ch).table.entries) (ho : e.owner = src) :
    e.stale = false ∧ ∃ r ∈ records, r.point = e.point := by
  rw [applyDump_entries] at h
  refine ⟨stale_of_mem_staleAs h ho, ?_⟩
  obtain ⟨x, hx, rfl⟩ := List.mem_map.mp h
  by_cases hown : x.owner = src
  · simp only [hown, if_true] at ho ⊢
    exact listed_of_mem_dumpHeld ch hx hown
  · rw [if_neg hown] at ho
    exact absurd ho hown

theorem applyDump_others :
    (applyDump me src records ch).table.entries.filter (fun e => decide (e.owner ≠ src)) =
      ch.table.entries.filter (fun e => decide (e.owner ≠ src)) := by
  rw [applyDump_entries, filter_staleAs false src _ (fun e he => by simpa using he) (fun _ _ => rfl)]
  exact (dumpHeld_keepsOthers ch).1

theorem mem_applyDump_others {e : Entry} (h : e.owner ≠ src) :
    e ∈ (applyDump me src records ch).table.entries ↔ e ∈ ch.table.entries := by
  have hin (es : List Entry) : e ∈ es ↔ e ∈ es.filter (fun e => decide (e.owner ≠ src)) := by
    rw [List.mem_filter, decide_eq_true_eq]
    exact ⟨fun he => ⟨he, h⟩, fun he => he.1⟩
  rw [hin, applyDump_others, ← hin]

/-! ### The slots (R45) -/

/-- A slot that is left with a condition: the fourth step has not emptied it. -/
theorem of_applyDump_slot {g : GroupNo} {c : Condition} (h : (applyDump me src records ch).table.slots[g] = some c) :
    (dumpGive src records (dumpHeld me src records ch)).table.slots[g] = some c ∧ listedClear src records c = false := by
  rw [applyDump_slot] at h
  split at h
  · cases h
  · next hkept =>
    rw [h, Option.any_some] at hkept
    exact ⟨h, Bool.eq_false_iff.mpr hkept⟩

theorem applyDump_slot_of_kept {g : GroupNo} {c : Condition}
    (h : (dumpGive src records (dumpHeld me src records ch)).table.slots[g] = some c) (hc : listedClear src records c = false) :
    (applyDump me src records ch).table.slots[g] = some c := by
  rw [applyDump_slot, h, Option.any_some, hc]
  rfl

theorem listedClear_of_other {c : Condition} (h : c.owner ≠ src) : listedClear src records c = false := by
  rw [listedClear, beq_eq_false_iff_ne.mpr h, Bool.false_and]

theorem listedClear_of_fo (honce : recordsOnce records) {r : DumpRecord} (hr : r ∈ records) (hfo : r.fo = true) :
    listedClear src records ⟨src, r.point⟩ = false := by
  rw [listedClear, Bool.and_eq_false_iff, List.any_eq_false]
  refine .inr fun x hx h => ?_
  rw [Bool.and_eq_true, beq_iff_eq, Bool.not_eq_true'] at h
  have hsame : x = r := List.inj_on_of_nodup_map honce hx hr h.1
  rw [hsame, hfo] at h
  exact absurd h.2 (by decide)

theorem fo_of_not_listedClear {c : Condition} (ho : c.owner = src) (h : listedClear src records c = false) {r : DumpRecord}
    (hr : r ∈ records) (hpoint : r.point = c.point) : r.fo = true := by
  rw [listedClear, ho, beq_self_eq_true, Bool.true_and, List.any_eq_false] at h
  have hnot := h r hr
  rw [hpoint, beq_self_eq_true, Bool.true_and, Bool.not_eq_true', Bool.not_eq_false] at hnot
  exact hnot

theorem slotLaw_dumpHeld (htable : tableLaw me ch.table) (hslot : slotLaw ch.table) : slotLaw (dumpHeld me src records ch).table := by
  have happlied := (tableKeeps_slotLaw me).dumpApply src records ch ⟨htable, hslot⟩
  have hremoved := (tableKeeps_slotLaw me).removeAll (unlisted src records (dumpApply me src records ch).table.entries) _ happlied
  exact ((tableKeeps_slotLaw me).dumpAlign src records _ hremoved).2

/-- R45: a slot of the source is that of a record with its fo flag. -/
theorem applyDump_slot_own (htable : tableLaw me ch.table) (hslot : slotLaw ch.table) {g : GroupNo} {c : Condition}
    (h : (applyDump me src records ch).table.slots[g] = some c) (ho : c.owner = src) : ∃ r ∈ records, r.point = c.point ∧ r.fo = true := by
  obtain ⟨hgiven, hclear⟩ := of_applyDump_slot ch h
  obtain hkept | ⟨r, hr, hfo, hgives⟩ := dumpGive_slot_cases src records (dumpHeld me src records ch) g
  · obtain ⟨e, he, hcond, -⟩ := (slotLaw_iff _).mp (slotLaw_dumpHeld (me := me) (src := src) (records := records) ch htable hslot) g c (hkept.symm.trans hgiven)
    obtain ⟨r, hr, hpoint⟩ := listed_of_mem_dumpHeld ch he ((congrArg Condition.owner hcond).trans ho)
    have hpoint' : r.point = c.point := hpoint.trans (congrArg Condition.point hcond)
    exact ⟨r, hr, hpoint', fo_of_not_listedClear ho hclear hr hpoint'⟩
  · have hcond := Option.some.inj (hgives.symm.trans hgiven)
    exact ⟨r, hr, congrArg Condition.point hcond, hfo⟩

/-- A slot that a record gives goes to the entry of the record's group, as it is found afterwards. -/
theorem group_of_find_applyDump {c : Condition} {e : Entry} (h : (dumpHeld me src records ch).table.find c = some e) :
    ∃ x, (applyDump me src records ch).table.find c = some x ∧ x.group = e.group := by
  rw [find_applyDump, h, Option.map_some]
  refine ⟨_, rfl, ?_⟩
  split <;> rfl

theorem group_of_find_dumpHeld {c : Condition} {e : Entry} (h : (applyDump me src records ch).table.find c = some e) :
    ∃ x, (dumpHeld me src records ch).table.find c = some x ∧ x.group = e.group := by
  rw [find_applyDump, Option.map_eq_some_iff] at h
  obtain ⟨x, hx, rfl⟩ := h
  refine ⟨x, hx, ?_⟩
  split <;> rfl

/-- R45: the last record of a group with its fo flag holds the group's slot. -/
theorem applyDump_slot_of_last {before later : List DumpRecord} {r : DumpRecord} (hrecords : records = before ++ r :: later)
    (honce : recordsOnce records) (hfo : r.fo = true) {e : Entry}
    (he : (applyDump me src records ch).table.find ⟨src, r.point⟩ = some e)
    (hlater : ∀ x ∈ later, x.fo = true → ∀ y, (applyDump me src records ch).table.find ⟨src, x.point⟩ = some y → y.group ≠ e.group) :
    (applyDump me src records ch).table.slots[e.group] = some ⟨src, r.point⟩ := by
  obtain ⟨x, hx, hgroup⟩ := group_of_find_dumpHeld ch he
  have hr : r ∈ records := hrecords ▸ List.mem_append_right before List.mem_cons_self
  have hlast := dumpGive_slot_of_last (before := before) (later := later) hfo hx hgroup fun y hy hyfo z hz => by
    obtain ⟨w, hw, hwgroup⟩ := group_of_find_applyDump ch hz
    rw [← hwgroup]
    exact hlater y hy hyfo w hw
  rw [← hrecords] at hlast
  exact applyDump_slot_of_kept ch hlast (listedClear_of_fo honce hr hfo)

/-- A slot of another owner that no record gives stays. -/
theorem applyDump_slot_other_kept {g : GroupNo} {c : Condition} (h : ch.table.slots[g] = some c) (ho : c.owner ≠ src)
    (hnone : ∀ r ∈ records, r.fo = true → ∀ e, (applyDump me src records ch).table.find ⟨src, r.point⟩ = some e → e.group ≠ g) :
    (applyDump me src records ch).table.slots[g] = some c := by
  obtain ⟨-, -, hkept⟩ := dumpHeld_keepsOthers (me := me) (src := src) (records := records) ch
  refine applyDump_slot_of_kept ch ?_ (listedClear_of_other ho)
  rw [dumpGive_slot_of_none fun r hr hfo e he => ?_]
  · exact hkept g c ho h
  · obtain ⟨x, hx, hgroup⟩ := group_of_find_applyDump ch he
    rw [← hgroup]
    exact hnone r hr hfo x hx

/-- No slot is given to another owner. -/
theorem applyDump_slot_other {g : GroupNo} {c : Condition} (h : (applyDump me src records ch).table.slots[g] = some c)
    (ho : c.owner ≠ src) : ch.table.slots[g] = some c := by
  obtain ⟨hgiven, -⟩ := of_applyDump_slot ch h
  obtain ⟨-, hslots, -⟩ := dumpHeld_keepsOthers (me := me) (src := src) (records := records) ch
  obtain hkept | ⟨r, -, -, hgives⟩ := dumpGive_slot_cases src records (dumpHeld me src records ch) g
  · exact hslots g c (hkept.symm.trans hgiven)
  · have hcond := Option.some.inj (hgives.symm.trans hgiven)
    exact absurd (congrArg Condition.owner hcond).symm ho

end

theorem recordsOnce_of_rise {records : List DumpRecord} (h : pointsRise records = true) : recordsOnce records := by
  have hsorted : List.Pairwise (fun a b : DumpRecord => a.point < b.point) records := by
    rw [← List.isChain_iff_pairwise]
    induction records with
    | nil => exact .nil
    | cons a rest ih =>
      cases rest with
      | nil => exact .singleton a
      | cons b rest =>
        rw [pointsRise, Bool.and_eq_true, decide_eq_true_eq] at h
        exact .cons_cons h.1 (ih h.2)
  exact List.pairwise_map.mpr (hsorted.imp fun h => ne_of_lt h)

/-- Settles O43: the records in turn, the removal of the unlisted, and the slots that the fo flags give. -/
theorem dumpReplacesItsSource : Obligations.DumpReplacesItsSource := by
  intro me src b t htable hslot hwf u
  rw [DumpBody.wellFormed, Bool.and_eq_true] at hwf
  have honce : recordsOnce b.records := recordsOnce_of_rise hwf.2
  refine ⟨fun hroom r hr => ?_, fun r hr e he => applyDump_record ⟨t, []⟩ honce hr he, ?_, fun ⟨r, hr, hnone⟩ => ?_,
    fun e he ho => applyDump_own ⟨t, []⟩ he ho, fun g c h ho => applyDump_slot_own ⟨t, []⟩ htable hslot h ho,
    fun before r later hrecords hfo e he hlater => applyDump_slot_of_last ⟨t, []⟩ hrecords honce hfo he hlater,
    fun g c h ho hnone => applyDump_slot_other_kept ⟨t, []⟩ h ho hnone, fun g c h ho => applyDump_slot_other ⟨t, []⟩ h ho,
    fun e ho => mem_applyDump_others ⟨t, []⟩ ho⟩
  · have hsome := isSome_dumpApply_of_room (me := me) (src := src) honce ⟨t, []⟩ hroom r hr
    obtain ⟨e, he⟩ := Option.isSome_iff_exists.mp hsome
    exact ⟨_, by rw [find_applyDump_listed ⟨t, []⟩ honce hr, he, Option.map_some]⟩
  · obtain ⟨hdropped, -⟩ := applyDump_flags (me := me) (src := src) (records := b.records) ⟨t, []⟩
    rw [hdropped, dumpHeld_dropped, dropped_dumpApply honce]
    congr 2
    exact List.filter_congr fun r hr => (isNone_find_applyDump ⟨t, []⟩ honce hr).symm
  · have hdrop : (dumpApply me src b.records ⟨t, []⟩).table.find ⟨src, r.point⟩ = none := by
      rw [← Option.isNone_iff_eq_none, ← isNone_find_applyDump ⟨t, []⟩ honce hr, hnone]
      rfl
    obtain ⟨-, hover, htable'⟩ := applyDump_flags (me := me) (src := src) (records := b.records) ⟨t, []⟩
    rw [hover, htable', occupancy_applyDump]
    exact dumpHeld_flags_of_dropped ⟨t, []⟩ honce ⟨r, hr, hdrop⟩

end Sys2Proof.Machine

/-! PROOFS. A DUMP on tables that show the same of its source (R43 to R46): the stale flags of the source and the own point 16 set
apart, each step leaves the same. -/

namespace Sys2Proof.Machine

/-- An entry with its stale flag clear where it is an owner's. -/
def unstale (n : StationNo) (e : Entry) : Entry := if e.owner = n then { e with stale := false } else e

/-- The entries of some conditions, with the stale flags of an owner set apart. -/
def AlarmTable.shown (q : Condition → Bool) (n : StationNo) (t : AlarmTable) : List Entry :=
  (t.entries.filter (fun e => q e.condition)).map (unstale n)

theorem unstale_condition (n : StationNo) (e : Entry) : (unstale n e).condition = e.condition := by
  unfold unstale
  split <;> rfl

theorem unstale_group (n : StationNo) (e : Entry) : (unstale n e).group = e.group := by
  unfold unstale
  split <;> rfl

theorem unstale_state (n : StationNo) (e : Entry) : (unstale n e).state = e.state ∧ (unstale n e).revision = e.revision := by
  unfold unstale
  split <;> exact ⟨rfl, rfl⟩

theorem unstale_idem (n : StationNo) (e : Entry) : unstale n (unstale n e) = unstale n e := by
  unfold unstale
  by_cases h : e.owner = n <;> simp [h]

theorem unstale_take (n : StationNo) (r : PointReport) (st : EntryState) (e : Entry) :
    unstale n ((unstale n e).take r st) = unstale n (e.take r st) := by
  unfold unstale
  by_cases h : e.owner = n <;> simp [h, Entry.take]

theorem unstale_takeOptions (n : StationNo) (r : DumpRecord) (e : Entry) :
    unstale n ((unstale n e).takeOptions r) = unstale n (e.takeOptions r) := by
  unfold unstale
  by_cases h : e.owner = n <;> simp [h, Entry.takeOptions]

/-- A table that shows the entries, slots and drops of some conditions as another does, and the flags where that is asked, and that gives
no slot beside. -/
structure AlarmTable.alike (flags : Prop) (q : Condition → Bool) (n : StationNo) (t u : AlarmTable) : Prop where
  entries : u.shown q n = t.shown q n
  within : ∀ (g : GroupNo) (c : Condition), u.slots[g] = some c → t.slots[g] = some c
  kept : ∀ (g : GroupNo) (c : Condition), q c = true → t.slots[g] = some c → u.slots[g] = some c
  dropped : u.dropped = t.dropped
  sameFlags : flags → t.sameFlags u

section
variable {flags : Prop} {q : Condition → Bool} {n : StationNo} {t u : AlarmTable}

theorem find_shown {c : Condition} (hc : q c = true) (t : AlarmTable) :
    (t.find c).map (unstale n) = (t.shown q n).find? (fun e => e.condition == c) := by
  have hcomp : (fun e : Entry => e.condition == c) ∘ unstale n = fun e => e.condition == c := by
    funext e
    rw [Function.comp_apply, unstale_condition]
  rw [AlarmTable.shown, List.find?_map, hcomp, List.find?_filter, AlarmTable.find]
  congr 2
  funext e
  by_cases he : e.condition = c
  · simp [he, hc]
  · simp [he]

theorem AlarmTable.alike.find (h : t.alike flags q n u) {c : Condition} (hc : q c = true) :
    (u.find c).map (unstale n) = (t.find c).map (unstale n) := by
  rw [find_shown hc, find_shown hc, h.entries]

theorem AlarmTable.alike.find_none (h : t.alike flags q n u) {c : Condition} (hc : q c = true) : u.find c = none ↔ t.find c = none := by
  have hfind := h.find hc
  rw [← Option.map_eq_none_iff (f := unstale n), hfind, Option.map_eq_none_iff]

/-- An entry that one table finds, the other finds but for its stale flag. -/
theorem AlarmTable.alike.find_some (h : t.alike flags q n u) {c : Condition} (hc : q c = true) {e : Entry} (he : t.find c = some e) :
    ∃ x, u.find c = some x ∧ unstale n x = unstale n e := by
  have hfind := h.find hc
  rw [he, Option.map_some, Option.map_eq_some_iff] at hfind
  exact hfind

theorem group_of_unstale {x e : Entry} (h : unstale n x = unstale n e) : x.group = e.group := by
  rw [← unstale_group n x, h, unstale_group]

theorem occupancy_shown {me : Option StationNo} (hq : ∀ c, some c.owner ≠ me → q c = true) (t : AlarmTable) :
    occupancy me t.entries = occupancy me (t.shown q n) := by
  rw [occupancy_eq, occupancy_eq, AlarmTable.shown, List.map_map]
  have hcomp : Entry.condition ∘ unstale n = Entry.condition := by
    funext e
    exact unstale_condition n e
  rw [hcomp, List.filter_map, List.filter_map, List.length_map, List.length_map, List.filter_filter]
  congr 1
  refine List.filter_congr fun e _ => ?_
  by_cases hown : some e.condition.owner = me
  · simp [hown]
  · simp [hq e.condition hown]

theorem AlarmTable.alike.occupancy {me : Option StationNo} (hq : ∀ c, some c.owner ≠ me → q c = true) (h : t.alike flags q n u) :
    occupancy me u.entries = occupancy me t.entries := by
  rw [occupancy_shown hq u, occupancy_shown (n := n) hq t, h.entries]

/-! ### The primitive changes -/

theorem shown_filter (p : Condition → Bool) (t : AlarmTable) (es : List Entry) (h : es = t.entries.filter (fun e => p e.condition))
    (v : AlarmTable) (hv : v.entries = es) : v.shown q n = (t.shown q n).filter (fun e => p e.condition) := by
  have hcomp : (fun e : Entry => p e.condition) ∘ unstale n = fun e => p e.condition := by
    funext e
    rw [Function.comp_apply, unstale_condition]
  rw [AlarmTable.shown, AlarmTable.shown, hv, h, List.filter_map, hcomp, List.filter_filter, List.filter_filter]
  congr 1
  exact List.filter_congr fun e _ => Bool.and_comm _ _

theorem without_eq_some {h : Option Condition} {c d : Condition} :
    (if h = some c then none else h) = some d ↔ d ≠ c ∧ h = some d := by
  split
  · next hc =>
    rw [hc]
    exact ⟨nofun, fun ⟨hne, heq⟩ => absurd (Option.some.inj heq).symm hne⟩
  · next hc => exact ⟨fun hd => ⟨fun hdc => hc (hdc ▸ hd), hd⟩, fun hd => hd.2⟩

/-- A rewritten entry that changes its group gives up its slot, and no other slot changes (R38, R139). -/
theorem rewriteEntry_slot_iff {e : Entry} {f : Entry → Entry} {ch : Change} {g : GroupNo} {d : Condition} :
    (rewriteEntry e f ch).table.slots[g] = some d ↔
      ch.table.slots[g] = some d ∧ ¬((f e).group ≠ e.group ∧ g = e.group ∧ d = e.condition) := by
  rw [rewriteEntry_slots]
  split
  · next hmoved =>
    rw [slots_set_get]
    split
    · next hg =>
      subst hg
      refine ⟨nofun, fun ⟨hd, hnot⟩ => absurd ⟨hmoved.1, rfl, ?_⟩ hnot⟩
      exact Option.some.inj (hd.symm.trans hmoved.2)
    · next hg => exact ⟨fun hd => ⟨hd, fun hnot => hg hnot.2.1⟩, fun hd => hd.1⟩
  · next hstay =>
    refine ⟨fun hd => ⟨hd, fun ⟨hmoved, hg, hdc⟩ => hstay ⟨hmoved, ?_⟩⟩, fun hd => hd.1⟩
    subst hg
    exact hdc ▸ hd

theorem removeEntry_alike {me : Option StationNo} (hq : ∀ c, some c.owner ≠ me → q c = true) {c : Condition} (hc : q c = true)
    {ch ch' : Change} (h : ch.table.alike flags q n ch'.table) :
    (removeEntry me c ch).table.alike flags q n (removeEntry me c ch').table := by
  have hshown (x : Change) : (removeEntry me c x).table.shown q n = (x.table.shown q n).filter (fun e => e.condition != c) :=
    shown_filter (fun d => d != c) x.table _ rfl _ (removeEntry_entries me c x)
  have hentries : (removeEntry me c ch').table.shown q n = (removeEntry me c ch).table.shown q n := by
    rw [hshown, hshown, h.entries]
  cases hf : ch.table.find c with
  | none =>
    rw [removeEntry_of_none hf, removeEntry_of_none ((h.find_none hc).mpr hf)]
    exact h
  | some e =>
    obtain ⟨x, hx, -⟩ := h.find_some hc hf
    have hoccupied : occupancy me (removeEntry me c ch').table.entries = occupancy me (removeEntry me c ch).table.entries := by
      rw [occupancy_shown (n := n) hq, occupancy_shown (n := n) hq, hentries]
    rw [removeEntry_entries, removeEntry_entries] at hoccupied
    have hslot (g : GroupNo) (d : Condition) :
        ((removeEntry me c ch).table.slots[g] = some d ↔ d ≠ c ∧ ch.table.slots[g] = some d) ∧
          ((removeEntry me c ch').table.slots[g] = some d ↔ d ≠ c ∧ ch'.table.slots[g] = some d) := by
      rw [removeEntry_table_of_find hf, removeEntry_table_of_find hx]
      dsimp only
      rw [slotsWithout, slotsWithout, slots_map_get, slots_map_get, without_eq_some, without_eq_some]
      exact ⟨Iff.rfl, Iff.rfl⟩
    refine ⟨hentries, fun g d hd => ?_, fun g d hd hset => ?_, ?_, fun hflags => ?_⟩
    · obtain ⟨hne, hbefore⟩ := (hslot g d).2.mp hd
      exact (hslot g d).1.mpr ⟨hne, h.within g d hbefore⟩
    · obtain ⟨hne, hbefore⟩ := (hslot g d).1.mp hset
      exact (hslot g d).2.mpr ⟨hne, h.kept g d hd hbefore⟩
    · rw [removeEntry_table_of_find hf, removeEntry_table_of_find hx]
      exact h.dropped
    · obtain ⟨hover, htable⟩ := h.sameFlags hflags
      rw [removeEntry_table_of_find hf, removeEntry_table_of_find hx]
      exact ⟨by rw [hoccupied, hover], by rw [hoccupied, htable]⟩

theorem rewriteEntry_alike {e x : Entry} {f : Entry → Entry} (hx : unstale n x = unstale n e)
    (hcond : ∀ y, (f y).condition = y.condition) (hf : ∀ y, unstale n (f (unstale n y)) = unstale n (f y)) {ch ch' : Change}
    (h : ch.table.alike flags q n ch'.table) :
    (rewriteEntry e f ch).table.alike flags q n (rewriteEntry x f ch').table := by
  have hsame : x.condition = e.condition := by rw [← unstale_condition n x, hx, unstale_condition]
  have hmoved : (f x).group = (f e).group := by
    refine group_of_unstale (n := n) ?_
    rw [← hf x, hx, hf e]
  have hgroup : x.group = e.group := group_of_unstale hx
  have hshown (w : Change) : (rewriteEntry e f w).table.shown q n =
      (w.table.shown q n).map (fun y => if y.condition = e.condition then unstale n (f y) else y) := by
    show ((w.table.entries.map (fun y => if y.condition = e.condition then f y else y)).filter _).map _ = _
    have hcomp : (fun y : Entry => q y.condition) ∘ (fun y => if y.condition = e.condition then f y else y) = fun y => q y.condition := by
      funext y
      rw [Function.comp_apply]
      split
      · rw [hcond]
      · rfl
    rw [List.filter_map, hcomp, AlarmTable.shown, List.map_map, List.map_map]
    refine List.map_congr_left fun y _ => ?_
    rw [Function.comp_apply, Function.comp_apply, unstale_condition]
    split
    · exact (hf y).symm
    · rfl
  have hentries : (rewriteEntry x f ch').table.entries = (rewriteEntry e f ch').table.entries := by
    show ch'.table.entries.map _ = ch'.table.entries.map _
    rw [hsame]
  refine ⟨?_, fun g d hd => ?_, fun g d hd hset => ?_, h.dropped, h.sameFlags⟩
  · rw [AlarmTable.shown, hentries, ← AlarmTable.shown, hshown, hshown, h.entries]
  · rw [rewriteEntry_slot_iff, hmoved, hgroup, hsame] at hd
    exact rewriteEntry_slot_iff.mpr ⟨h.within g d hd.1, hd.2⟩
  · rw [rewriteEntry_slot_iff] at hset
    rw [rewriteEntry_slot_iff, hmoved, hgroup, hsame]
    exact ⟨h.kept g d hd hset.1, hset.2⟩

theorem createEntry_alike {me : Option StationNo} (hq : ∀ c, some c.owner ≠ me → q c = true) {src : StationNo} {r : PointReport}
    {st : EntryState} {ch ch' : Change} (h : ch.table.alike flags q n ch'.table) :
    (createEntry me false src r st ch).table.alike flags q n (createEntry me false src r st ch').table := by
  have hoccupied := h.occupancy hq
  obtain ⟨hfull, heq⟩ | ⟨hroom, heq⟩ := createEntry_cases me false src r st ch <;>
    obtain ⟨hfull', heq'⟩ | ⟨hroom', heq'⟩ := createEntry_cases me false src r st ch' <;> rw [heq, heq']
  · exact ⟨h.entries, h.within, h.kept, congrArg Counter.bump h.dropped, fun _ => ⟨rfl, rfl⟩⟩
  · exact absurd (hoccupied ▸ hfull) hroom'
  · exact absurd (hoccupied ▸ hfull') hroom
  · refine ⟨?_, fun g c hc => ?_, fun g c hc hset => ?_, h.dropped, h.sameFlags⟩
    rotate_left
    · exact h.within g c (by simpa using hc)
    · exact h.kept g c hc (by simpa using hset)
    have hentries := h.entries
    rw [AlarmTable.shown, AlarmTable.shown] at hentries ⊢
    rw [List.filter_append, List.filter_append, List.map_append, List.map_append, hentries]

theorem giveSlotTo_alike (g : GroupNo) (c : Condition) {ch ch' : Change} (h : ch.table.alike flags q n ch'.table) :
    (giveSlotTo g c ch).table.alike flags q n (giveSlotTo g c ch').table := by
  rw [giveSlotTo_table, giveSlotTo_table]
  refine ⟨h.entries, fun k d hd => ?_, fun k d hd hset => ?_, h.dropped, h.sameFlags⟩
  · rw [slots_set_get] at hd ⊢
    split at hd
    · next hk => rwa [if_pos hk]
    · next hk => rw [if_neg hk]; exact h.within k d hd
  · rw [slots_set_get] at hset ⊢
    split at hset
    · next hk => rwa [if_pos hk]
    · next hk => rw [if_neg hk]; exact h.kept k d hd hset

end

end Sys2Proof.Machine

/-! PROOFS. A DUMP's five steps on tables that show the same of its source (R43 to R46, R139). -/

namespace Sys2Proof.Machine

section
variable {flags : Prop} {q : Condition → Bool} {src : StationNo} {me : Option StationNo} (hq : ∀ c, some c.owner ≠ me → q c = true)
  (hsrc : ∀ p, q ⟨src, p⟩ = true) {ch ch' : Change}

theorem AlarmTable.alike.trans {t u v : AlarmTable} (h : t.alike flags q src u) (h' : u.alike flags q src v) : t.alike flags q src v where
  entries := h'.entries.trans h.entries
  within g c hc := h.within g c (h'.within g c hc)
  kept g c hc hset := h'.kept g c hc (h.kept g c hc hset)
  dropped := h'.dropped.trans h.dropped
  sameFlags hf := ⟨(h'.sameFlags hf).1.trans (h.sameFlags hf).1, (h'.sameFlags hf).2.trans (h.sameFlags hf).2⟩

include hq hsrc

/-! ### The first step (R43) -/

theorem applyContents_alike (r : PointReport) (h : ch.table.alike flags q src ch'.table) :
    (applyContents me false src r ch).table.alike flags q src (applyContents me false src r ch').table := by
  cases hs : entryState? r.state with
  | none =>
    rw [applyContents_of_normal ch hs, applyContents_of_normal ch' hs]
    exact removeEntry_alike hq (hsrc r.point) h
  | some st =>
    cases hf : ch.table.find ⟨src, r.point⟩ with
    | none =>
      rw [applyContents_of_new hs hf, applyContents_of_new hs ((h.find_none (hsrc r.point)).mpr hf)]
      exact createEntry_alike hq h
    | some e =>
      obtain ⟨x, hx, hsame⟩ := h.find_some (hsrc r.point) hf
      obtain ⟨hstate, hrevision⟩ := unstale_state src x
      obtain ⟨hstate', hrevision'⟩ := unstale_state src e
      rw [hsame] at hstate hrevision
      rw [applyContents_of_held hs hf, applyContents_of_held hs hx, updateEntry, updateEntry, ← hstate, ← hrevision, ← hstate', ← hrevision']
      split
      · exact h
      · exact rewriteEntry_alike (f := fun y => y.take r st) hsame (fun _ => rfl) (unstale_take src r st) h

theorem dumpApply_alike (records : List DumpRecord) (h : ch.table.alike flags q src ch'.table) :
    (dumpApply me src records ch).table.alike flags q src (dumpApply me src records ch').table := by
  induction records generalizing ch ch' with
  | nil => exact h
  | cons r rest ih => exact ih (applyContents_alike hq hsrc (dumpReport r) h)

/-! ### The second step (R44) -/

theorem removeAll_alike {cs : List Condition} (hcs : ∀ c ∈ cs, c.owner = src) (h : ch.table.alike flags q src ch'.table) :
    (removeAll me cs ch).table.alike flags q src (removeAll me cs ch').table := by
  induction cs generalizing ch ch' with
  | nil => exact h
  | cons c cs ih =>
    obtain ⟨hc, hrest⟩ := List.forall_mem_cons.mp hcs
    cases c
    cases hc
    exact ih hrest (removeEntry_alike hq (hsrc _) h)

omit hq in
theorem conditionsOf_shown (t : AlarmTable) :
    conditionsOf src t.entries = ((t.shown q src).map Entry.condition).filter (fun c => c.owner == src) := by
  have hcomp : Entry.condition ∘ unstale src = Entry.condition := by
    funext e
    exact unstale_condition src e
  rw [AlarmTable.shown, List.map_map, hcomp, List.filter_map, List.filter_filter, conditionsOf]
  congr 1
  refine List.filter_congr fun e _ => ?_
  by_cases hown : e.owner = src
  · simp [hown, hsrc, Entry.condition]
  · simp [hown, Entry.condition]

theorem dumpRemove_alike (records : List DumpRecord) (h : ch.table.alike flags q src ch'.table) :
    (dumpRemove me src records ch).table.alike flags q src (dumpRemove me src records ch').table := by
  have hsame : unlisted src records ch'.table.entries = unlisted src records ch.table.entries := by
    rw [unlisted, unlisted, conditionsOf_shown hsrc, conditionsOf_shown hsrc, h.entries]
  rw [dumpRemove_eq, dumpRemove_eq, hsame]
  exact removeAll_alike hq hsrc (fun _ => owner_of_mem_unlisted) h

/-! ### The groups and options (R46, R139) -/

omit hq hsrc in
theorem takeOptions_eq_iff {e : Entry} {r : DumpRecord} :
    e.takeOptions r = e ↔ r.group = e.group ∧ r.foEligible = e.foEligible ∧ r.audible = e.audible := by
  rw [Entry.takeOptions]
  constructor
  · intro h
    exact ⟨congrArg Entry.group h, congrArg Entry.foEligible h, congrArg Entry.audible h⟩
  · rintro ⟨hgroup, hfo, haudible⟩
    rw [hgroup, hfo, haudible]

omit hq hsrc in
theorem options_of_unstale {x e : Entry} (h : unstale src x = unstale src e) (r : DumpRecord) :
    x.takeOptions r = x ↔ e.takeOptions r = e := by
  have hoptions (y : Entry) : (unstale src y).foEligible = y.foEligible ∧ (unstale src y).audible = y.audible := by
    unfold unstale
    split <;> exact ⟨rfl, rfl⟩
  rw [takeOptions_eq_iff, takeOptions_eq_iff, group_of_unstale h, ← (hoptions x).1, ← (hoptions x).2, h, (hoptions e).1, (hoptions e).2]

omit hq in
theorem alignRecord_alike (r : DumpRecord) (h : ch.table.alike flags q src ch'.table) :
    (alignRecord src ch r).table.alike flags q src (alignRecord src ch' r).table := by
  unfold alignRecord
  cases hf : ch.table.find ⟨src, r.point⟩ with
  | none =>
    rw [(h.find_none (hsrc r.point)).mpr hf]
    exact h
  | some e =>
    obtain ⟨x, hx, hsame⟩ := h.find_some (hsrc r.point) hf
    rw [hx]
    dsimp only
    by_cases hkept : e.takeOptions r = e
    · rw [if_pos hkept, if_pos ((options_of_unstale hsame r).mpr hkept)]
      exact h
    · rw [if_neg hkept, if_neg fun hx => hkept ((options_of_unstale hsame r).mp hx)]
      exact rewriteEntry_alike (f := fun y => y.takeOptions r) hsame (fun _ => rfl) (unstale_takeOptions src r) h

omit hq in
theorem dumpAlign_alike (records : List DumpRecord) (h : ch.table.alike flags q src ch'.table) :
    (dumpAlign src records ch).table.alike flags q src (dumpAlign src records ch').table := by
  induction records generalizing ch ch' with
  | nil => exact h
  | cons r rest ih => exact ih (alignRecord_alike hsrc r h)

/-! ### The slots (R45) -/

omit hq in
theorem giveRecord_alike (r : DumpRecord) (h : ch.table.alike flags q src ch'.table) :
    (giveRecord src ch r).table.alike flags q src (giveRecord src ch' r).table := by
  unfold giveRecord
  split
  · cases hf : ch.table.find ⟨src, r.point⟩ with
    | none =>
      rw [(h.find_none (hsrc r.point)).mpr hf]
      exact h
    | some e =>
      obtain ⟨x, hx, hsame⟩ := h.find_some (hsrc r.point) hf
      rw [hx]
      dsimp only
      rw [group_of_unstale hsame]
      exact giveSlotTo_alike e.group ⟨src, r.point⟩ h
  · exact h

omit hq in
theorem dumpGive_alike (records : List DumpRecord) (h : ch.table.alike flags q src ch'.table) :
    (dumpGive src records ch).table.alike flags q src (dumpGive src records ch').table := by
  induction records generalizing ch ch' with
  | nil => exact h
  | cons r rest ih => exact ih (giveRecord_alike hsrc r h)

omit hq hsrc in
theorem any_eq_some {h : Option Condition} {p : Condition → Bool} {d : Condition} :
    (if h.any p then none else h) = some d ↔ p d = false ∧ h = some d := by
  split
  · next hany =>
    refine ⟨nofun, fun ⟨hd, heq⟩ => ?_⟩
    rw [heq, Option.any_some, hd] at hany
    cases hany
  · next hnot =>
    refine ⟨fun heq => ⟨?_, heq⟩, fun hd => hd.2⟩
    rw [heq, Option.any_some] at hnot
    exact Bool.eq_false_iff.mpr hnot

omit hq hsrc in
theorem dumpEmpty_alike (records : List DumpRecord) (h : ch.table.alike flags q src ch'.table) :
    (dumpEmpty src records ch).table.alike flags q src (dumpEmpty src records ch').table := by
  have hslot (w : Change) (g : GroupNo) (d : Condition) : (dumpEmpty src records w).table.slots[g] = some d ↔
      listedClear src records d = false ∧ w.table.slots[g] = some d := by
    rw [← any_eq_some, ← slots_map_get w.table.slots (fun h => if h.any (listedClear src records) then none else h)]
    rfl
  refine ⟨h.entries, fun g d hd => ?_, fun g d hd hset => ?_, h.dropped, h.sameFlags⟩
  · obtain ⟨hclear, hbefore⟩ := (hslot ch' g d).mp hd
    exact (hslot ch g d).mpr ⟨hclear, h.within g d hbefore⟩
  · obtain ⟨hclear, hbefore⟩ := (hslot ch g d).mp hset
    exact (hslot ch' g d).mpr ⟨hclear, h.kept g d hd hbefore⟩

/-! ### The stale flags (R46) -/

omit hq hsrc in
theorem shown_staleAs (t : AlarmTable) :
    AlarmTable.shown q src { t with entries := staleAs false src t.entries } = t.shown q src := by
  show ((t.entries.map (unstale src)).filter _).map (unstale src) = _
  have hcomp : (fun e : Entry => q e.condition) ∘ unstale src = fun e => q e.condition := by
    funext e
    rw [Function.comp_apply, unstale_condition]
  rw [List.filter_map, hcomp, List.map_map, AlarmTable.shown]
  exact List.map_congr_left fun e _ => unstale_idem src e

omit hq hsrc in
theorem setStale_alike (h : ch.table.alike flags q src ch'.table) :
    (setStale false src ch).table.alike flags q src (setStale false src ch').table := by
  refine ⟨?_, h.within, h.kept, h.dropped, h.sameFlags⟩
  rw [setStale_table, setStale_table, shown_staleAs, shown_staleAs]
  exact h.entries

/-- A DUMP leaves the same of its source and of the conditions in view. -/
theorem applyDump_alike (records : List DumpRecord) (h : ch.table.alike flags q src ch'.table) :
    (applyDump me src records ch).table.alike flags q src (applyDump me src records ch').table :=
  setStale_alike (dumpEmpty_alike records (dumpGive_alike hsrc records (dumpAlign_alike hsrc records
    (dumpRemove_alike hq hsrc records (dumpApply_alike hq hsrc records h)))))

end

/-! ### The entries a DUMP leaves, in view -/

theorem shown_applyDump (q : Condition → Bool) (me : Option StationNo) (src : StationNo) (records : List DumpRecord) (ch : Change) :
    (applyDump me src records ch).table.shown q src =
      (applyDump me src records ch).table.entries.filter (fun e => q e.condition) := by
  have hcomp : (fun e : Entry => q e.condition) ∘ unstale src = fun e => q e.condition := by
    funext e
    rw [Function.comp_apply, unstale_condition]
  rw [AlarmTable.shown, applyDump_entries]
  show ((List.map (unstale src) _).filter _).map _ = (List.map (unstale src) _).filter _
  rw [List.filter_map, hcomp, List.map_map]
  exact List.map_congr_left fun e _ => unstale_idem src e

theorem table_ext {t u : AlarmTable} (hentries : t.entries = u.entries) (hslots : ∀ g : GroupNo, t.slots[g] = u.slots[g])
    (hover : t.overflow = u.overflow) (htable : t.tableOverflow = u.tableOverflow) (hdropped : t.dropped = u.dropped) : t = u := by
  have hvector : t.slots = u.slots := by
    ext i hi : 1
    exact hslots ⟨i, hi⟩
  cases t
  cases u
  simp only [AlarmTable.mk.injEq]
  exact ⟨hentries, hvector, hover, htable, hdropped⟩

/-- A DUMP sets the stale flags of its source itself, so a revival before it is not seen after it (R46, R50). -/
theorem applyDump_heard (s : State) (src : StationNo) (records : List DumpRecord) :
    (applyDump s.me src records ⟨{ s.table with entries := s.heardEntries src }, []⟩).table =
      (applyDump s.me src records ⟨s.table, []⟩).table := by
  have hshown : AlarmTable.shown (fun _ => true) src { s.table with entries := s.heardEntries src } =
      s.table.shown (fun _ => true) src := by
    unfold State.heardEntries
    split
    · exact shown_staleAs s.table
    · rfl
  have hbefore : s.table.alike True (fun _ => true) src { s.table with entries := s.heardEntries src } :=
    ⟨hshown, fun _ _ h => h, fun _ _ _ h => h, rfl, fun _ => ⟨rfl, rfl⟩⟩
  have hafter := applyDump_alike (me := s.me) (fun _ _ => rfl) (fun _ => rfl) records (ch := ⟨s.table, []⟩)
    (ch' := ⟨{ s.table with entries := s.heardEntries src }, []⟩) hbefore
  have hentries := hafter.entries
  rw [shown_applyDump, shown_applyDump, List.filter_true, List.filter_true] at hentries
  obtain ⟨hover, htable⟩ := hafter.sameFlags trivial
  refine table_ext hentries (fun g => ?_) hover htable hafter.dropped
  exact Option.ext fun c => ⟨hafter.within g c, hafter.kept g c rfl⟩

end Sys2Proof.Machine

/-! PROOFS. A delivered DUMP (R43 to R46, R125, R132, R142, R144). -/

namespace Sys2Proof.Machine

/-! ### The table between the looks of the monitor (R12, R17) -/

theorem alike_of_agreesOn {flags : Prop} {q : Condition → Bool} {n : StationNo} {t u : AlarmTable} (h : t.agreesOn q u)
    (hflags : flags → t.sameFlags u) : t.alike flags q n u := by
  obtain ⟨hentries, hwithin, hkept, hdropped⟩ := h
  exact ⟨congrArg (List.map (unstale n)) hentries, hwithin, hkept, hdropped, hflags⟩

theorem apartFromHealth_of_remote {s : State} {c : Condition} (h : some c.owner ≠ s.me) : s.apartFromHealth c = true := by
  rw [State.apartFromHealth, decide_eq_true_eq]
  exact .inl fun heq => h heq.symm

/-- A DUMP of another station between the looks leaves the table of its five steps (R43 to R46). -/
theorem State.settlesOn.dump {s t : State} {src : StationNo} {k : Nat} (records : List DumpRecord) (hne : s.me ≠ some src)
    (h : s.settlesOn { s.table with entries := s.heardEntries src } k t) :
    s.settlesOn (applyDump s.me src records ⟨s.table, []⟩).table k (takeChange (applyDump t.me src records) t) := by
  have halike := applyDump_alike (flags := overflowLaw s.me s.table) (fun _ => apartFromHealth_of_remote)
    (fun p => apartFromHealth_of_remote (c := ⟨src, p⟩) fun heq => hne heq.symm) records
    (ch := ⟨{ s.table with entries := s.heardEntries src }, []⟩) (ch' := ⟨t.table, []⟩)
    (alike_of_agreesOn h.table fun hlaw => (h.flags hlaw).2)
  have hentries := halike.entries
  rw [shown_applyDump, shown_applyDump] at hentries
  have hsame (htable : t.table = { s.table with entries := s.heardEntries src }) :
      (takeChange (applyDump t.me src records) t).table = (applyDump s.me src records ⟨s.table, []⟩).table := by
    rw [takeChange_table, h.me, htable, applyDump_heard]
  have hgiven : (takeChange (applyDump t.me src records) t).table = (applyDump s.me src records ⟨t.table, []⟩).table := by
    rw [takeChange_table, h.me]
  exact
    { me := (me_of_control (takeChange_control ..)).trans h.me
      marked := fun hm => by
        obtain ⟨hmarks, htable⟩ := h.marked hm
        exact ⟨(marks_congr (takeChange_control ..) (by rw [takeChange_link])).trans hmarks, hsame htable⟩
      step := by
        rw [point_of_engine (takeChange_engine (applyDump t.me src records) t) 16]
        exact h.step.imp (fun hkept => ⟨hkept.1, hsame hkept.2⟩) id
      table := by
        rw [hgiven, ← applyDump_heard]
        exact ⟨hentries, halike.within, halike.kept, halike.dropped⟩
      flags := fun hlaw => by
        rw [hgiven, ← applyDump_heard]
        exact ⟨(tableKeeps_overflowLaw s.me).applyDump src records ⟨t.table, []⟩ (h.flags hlaw).1, halike.sameFlags hlaw⟩ }

/-! ### The Repair Unit and the table (R114, R144) -/

/-- A record that is NONE stays so (R149). -/
theorem takeChange_repairOf_none {f : Change → Change} {s : State} {n : StationNo} (h : s.repairOf n = .atReset) :
    (takeChange f s).repairOf n = .atReset := by
  unfold takeChange
  dsimp only
  split
  · show (suspendRepair s.repair)[n.index] = .atReset
    rw [suspendRepair_get, if_neg]
    · exact h
    · rw [show s.repair[n.index] = .atReset from h]
      decide
  · exact h

/-- What the Repair Unit and the table leave beside the table, in either order. -/
theorem repairAndTable_facts (o : Orders) (src : StationNo) (b : DumpBody) (s : State) :
    (repairAndTable o src b s).control = s.control ∧ (repairAndTable o src b s).roster = s.roster ∧
      (repairAndTable o src b s).monitor = s.monitor ∧ (repairAndTable o src b s).service = s.service ∧
      (repairAndTable o src b s).pins = s.pins ∧ (repairAndTable o src b s).repairOf src = .atReset ∧
      (repairAndTable o src b s).link.lanes.repair = withdrawIn (s.onAir .repair) src s.link.lanes.repair := by
  unfold repairAndTable
  split
  · obtain ⟨hlane, hrecord, -⟩ := endRepair_withdraws (s := s) src
    have hlooked := (causeMoment_looked o (endRepair src s)).1
    refine ⟨by simp [applyDumpOf], by simp [applyDumpOf], by simp [applyDumpOf], by simp [applyDumpOf], by simp [applyDumpOf], ?_, ?_⟩
    · exact takeChange_repairOf_none ((repairOf_of_repair hlooked.repair src).trans hrecord)
    · rw [applyDumpOf, takeChange_link, hlooked.repairLane, hlane]
  · have hlooked := (causeMoment_looked o (applyDumpOf src b s)).1
    obtain ⟨hlane, hrecord, -⟩ := endRepair_withdraws (s := causeMoment o (applyDumpOf src b s)) src
    refine ⟨by simp [applyDumpOf], by simp [applyDumpOf], by simp [applyDumpOf], by simp [applyDumpOf], by simp [applyDumpOf], hrecord, ?_⟩
    obtain ⟨marks, hlink, -⟩ := hlooked.link
    rw [applyDumpOf, takeChange_link] at hlink
    rw [hlane, State.onAir, applyDumpOf, hlink]
    rfl

theorem repairAndTable_settlesOn (o : Orders) (b : DumpBody) {s t : State} {src : StationNo} {k : Nat} (hne : s.me ≠ some src)
    (h : s.settlesOn { s.table with entries := s.heardEntries src } k t) :
    s.settlesOn (applyDump s.me src b.records ⟨s.table, []⟩).table (k + 1) (repairAndTable o src b t) := by
  unfold repairAndTable
  split
  · have hended := h.act (t' := endRepair src t) (me_of_control (endRepair_control ..)) (marks_endRepair src t ▸ id) (endRepair_engine ..)
      (endRepair_table ..)
    exact (hended.causeMoment o).dump b.records hne
  · have hdumped := (h.dump b.records hne).causeMoment o
    exact hdumped.act (me_of_control (endRepair_control ..)) (marks_endRepair src _ ▸ id) (endRepair_engine ..) (endRepair_table ..)

/-- Settles O42: the Roster's take, the awaited set, and the Repair Unit and the table in either order. -/
theorem dumpEndsRepairAndAwaiting : Obligations.DumpEndsRepairAndAwaiting := by
  intro s src b h hme
  refine ⟨_, congrArg Host.Outcome.next (whenActive_deliver_other (own := fun _ => applyDumpOf src b) (other := fun o => receiveDump o src b) h hme), ?_⟩
  obtain ⟨hcontrol, hroster, hmonitor, hservice, hpins, hrecord, hlane⟩ :=
    repairAndTable_facts (Config.orders s.draws) src b (awaitedRemove src (s.taken src (recordDump b)))
  obtain ⟨hentries, hawaitedMe, hawaitedMarks⟩ := awaitedRemove_frame src (s.taken src (recordDump b))
  have hlooked := (finish_looked (receiveDump (Config.orders s.draws) src b s.counted)).1
  have hmember : (finish (receiveDump (Config.orders s.draws) src b s.counted)).member src = (s.taken src (recordDump b)).member src :=
    congrArg (fun v : Vector RosterEntry 48 => v[src.index]) ((congrArg Roster.entries (hlooked.roster.trans hroster)).trans hentries)
  have hsettles := (taken_settlesOn src (recordDump b) s).act hawaitedMe hawaitedMarks (awaitedRemove_engine ..) (awaitedRemove_table ..)
  obtain ⟨entries, htaken⟩ := taken_roster src (recordDump b) s
  have hawaits : s.awaitsNoMore src (finish (receiveDump (Config.orders s.draws) src b s.counted)) :=
    (awaitedRemove_awaitsNoMore src (s.taken src (recordDump b))).congr (taken_control ..) (by rw [htaken]) (by rw [htaken])
      (hlooked.control.trans hcontrol) (hlooked.roster.trans hroster)
  have ⟨_, hlast, hkept⟩ := hawaits
  refine ⟨(repairOf_of_repair hlooked.repair src).trans hrecord, by rw [hmember, member_taken_self]; rfl, withdraws_of_lane ?_, hawaits,
    fun hjoining hawaited => ?_, fun hnot => ?_, (repairAndTable_settlesOn (Config.orders s.draws) b hme hsettles).finish.leavesTable (by decide),
    hlooked.monitor.trans (hmonitor.trans ((awaitedRemove_monitor ..).trans (taken_monitor ..))),
    hlooked.service.trans (hservice.trans ((awaitedRemove_service ..).trans (taken_service ..))),
    hlooked.pins.trans (hpins.trans ((awaitedRemove_pins ..).trans (taken_pins ..)))⟩
  · refine hlooked.repairLane.trans (hlane.trans ?_)
    rw [State.onAir, awaitedRemove_link, taken_link]
    rfl
  · obtain ⟨hrunning, -⟩ := hlast ⟨hjoining, by simp [hawaited], by simp [hawaited]⟩
    rw [hrunning]
  · obtain ⟨hsame, hset, -⟩ := hkept fun ⟨_, hin, _⟩ => hnot hin
    refine ⟨hsame, hset.trans (List.filter_eq_self.mpr fun m hm => ?_)⟩
    rw [decide_eq_true_eq]
    rintro rfl
    exact hnot hm

end Sys2Proof.Machine

/-! PROOFS. A delivered frame proves its source alive (R33, R50, R52, R121, R124, R125): what each kind leaves of the entries, before the
end of its command. -/

namespace Sys2Proof.Machine

/-! ### Items leave the entries of the other stations (R9, R12) -/

theorem takeItem_agreesOn {q : Condition → Bool} {s : State} (hq : ∀ n p, s.me = some n → q ⟨n, p⟩ = false) (a : Action) (i : Item) :
    s.table.agreesOn q (takeItem a s i).table := by
  unfold takeItem
  split
  · next st _ =>
    exact handOver_agreesOn (s := s.setPoint i.point { s.point i.point with state := st, revision := (s.point i.point).revision + 1#8 })
      fun n hn => hq n i.point hn
  · exact s.table.agreesOn_refl q

theorem itemsFold_agreesOn {q : Condition → Bool} {s : State} (hq : ∀ n p, s.me = some n → q ⟨n, p⟩ = false) (a : Action)
    (items : List Item) : s.table.agreesOn q (items.foldl (takeItem a) s).table := by
  induction items generalizing s with
  | nil => exact s.table.agreesOn_refl q
  | cons i rest ih =>
    have hme : (takeItem a s i).me = s.me := me_of_control (takeItem_control a s i)
    exact AlarmTable.agreesOn_trans (takeItem_agreesOn hq a i) (ih fun n p hn => hq n p (hme.symm.trans hn))

theorem takeItem_table_of_marks {s : State} (h : s.marks = true) (a : Action) (i : Item) : (takeItem a s i).table = s.table := by
  unfold takeItem
  split
  · exact handOver_table_of_marks (s := s.setPoint i.point _) h
  · rfl

theorem itemsFold_of_marks {s : State} (h : s.marks = true) (a : Action) (items : List Item) :
    (items.foldl (takeItem a) s).table = s.table ∧ (items.foldl (takeItem a) s).marks = true := by
  induction items generalizing s with
  | nil => exact ⟨rfl, h⟩
  | cons i rest ih =>
    obtain ⟨htable, hmarks⟩ := ih (takeItem_ann_of_marks h a i).2
    exact ⟨htable.trans (takeItem_table_of_marks h a i), hmarks⟩

/-! ### The entries after contents and after the removal of an owner -/

/-- Contents leave entries that were held, and entries they have written, which are not stale (R38, R39, R52). -/
theorem mem_applyContents {me : Option StationNo} {give : Bool} {src : StationNo} {r : PointReport} {ch : Change} {e : Entry}
    (h : e ∈ (applyContents me give src r ch).table.entries) : e ∈ ch.table.entries ∨ e.stale = false := by
  unfold applyContents at h
  split at h
  · rw [removeEntry_entries] at h
    exact .inl (List.mem_of_mem_filter h)
  · next st _ =>
    split at h
    · unfold updateEntry at h
      split at h
      · exact .inl h
      · obtain ⟨x, hx, rfl⟩ := List.mem_map.mp h
        split
        · exact .inr rfl
        · exact .inl hx
    · obtain ⟨-, heq⟩ | ⟨-, heq⟩ := createEntry_cases me give src r st ch
      · rw [heq] at h
        exact .inl h
      · rw [heq] at h
        obtain hx | hx := List.mem_append.mp h
        · exact .inl hx
        · rw [List.mem_singleton.mp hx]
          exact .inr rfl

/-- Whether a slot may be given is no matter of the entries. -/
theorem applyContents_entries (me : Option StationNo) (give : Bool) (src : StationNo) (r : PointReport) (ch : Change) :
    (applyContents me give src r ch).table.entries = (applyContents me false src r ch).table.entries := by
  unfold applyContents
  split
  · rfl
  · split
    · rfl
    · unfold createEntry
      split <;> rfl

/-! ### What a frame leaves of its source and of the others -/

/-- A condition of another station. -/
def State.remote (s : State) (c : Condition) : Bool := decide (s.me ≠ some c.owner)

/-- The entries of neither this station nor the source. -/
def State.apartFromSource (s : State) (src : StationNo) (e : Entry) : Bool := decide (e.owner ≠ src ∧ s.me ≠ some e.owner)

/-- A state in which a frame of the source is taken: the count, the roster, the stale flags and the other stations' entries. -/
structure State.hears (s : State) (src : StationNo) (t : State) : Prop where
  good : t.link.receivedGood = s.link.receivedGood.bump
  present : (t.member src).state = .present
  silence : (t.member src).silence = .running (s.roster.lossWindow * intervalMs (t.member src).interval) 0
  others : ∀ m : StationNo, m ≠ src → t.member m = s.member m
  fresh : (s.member src).state.unheard = true → ∀ e ∈ t.table.entries, e.owner = src → e.stale = false
  apart : t.table.entries.filter (s.apartFromSource src) = s.table.entries.filter (s.apartFromSource src)
  monitor : t.monitor = s.monitor
  service : t.service = s.service
  pins : t.pins = s.pins

theorem remote_of_own {s : State} {n : StationNo} {p : PointNo} (h : s.me = some n) : s.remote ⟨n, p⟩ = false := by
  rw [State.remote, decide_eq_false_iff_not]
  exact fun hne => hne h

theorem apartFromHealth_of_isRemote {s : State} {c : Condition} (h : s.remote c = true) : s.apartFromHealth c = true :=
  apartFromHealth_of_remote fun heq => (of_decide_eq_true h) heq.symm

theorem filter_filter_of_imp {α : Type} {p q : α → Bool} (h : ∀ x, p x = true → q x = true) (l : List α) :
    (l.filter q).filter p = l.filter p := by
  rw [List.filter_filter]
  refine List.filter_congr fun x _ => ?_
  cases hp : p x with
  | false => rfl
  | true => rw [h x hp]; rfl

/-- The end of the command leaves all of it (R12, R17). -/
theorem State.hears.finish {s t : State} {src : StationNo} (h : s.hears src t) (hne : s.me ≠ some src) (hme : t.me = s.me) :
    s.hears src (finish t) := by
  have hlooked := (finish_looked t).1
  have hq : t.apartFromHealth = s.apartFromHealth := apartFromHealth_congr hme
  have hentries : (Machine.finish t).table.entries.filter (fun e => s.apartFromHealth e.condition) =
      t.table.entries.filter (fun e => s.apartFromHealth e.condition) := hq ▸ hlooked.table.1
  have hmember (m : StationNo) : (Machine.finish t).member m = t.member m := member_finish t m
  refine
    { good := ?_, present := by rw [hmember]; exact h.present, silence := by rw [hmember]; exact h.silence
      others := fun m hm => by rw [hmember]; exact h.others m hm
      fresh := fun hunheard e he ho => ?_, apart := ?_
      monitor := hlooked.monitor.trans h.monitor, service := hlooked.service.trans h.service, pins := hlooked.pins.trans h.pins }
  · obtain ⟨marks, hlink, -⟩ := hlooked.link
    rw [hlink]
    exact h.good
  · have hapart : s.apartFromHealth e.condition = true :=
      apartFromHealth_of_remote fun heq => hne (heq.symm.trans (congrArg some ho))
    have hin : e ∈ t.table.entries.filter (fun e => s.apartFromHealth e.condition) := hentries ▸ List.mem_filter.mpr ⟨he, hapart⟩
    exact h.fresh hunheard e (List.mem_of_mem_filter hin) ho
  · have himp (e : Entry) (he : s.apartFromSource src e = true) : s.apartFromHealth e.condition = true :=
      apartFromHealth_of_remote fun heq => (of_decide_eq_true he).2 heq.symm
    rw [← filter_filter_of_imp himp, hentries, filter_filter_of_imp himp]
    exact h.apart

/-! ### The Roster's part -/

theorem heard_present {e : RosterEntry} (h : e.state ≠ .self) : e.heard.state = .present := by
  rw [RosterEntry.heard]
  unfold Membership.unheard
  cases hstate : e.state
  case self => exact absurd hstate h
  all_goals rfl

theorem taken_present {s : State} {src : StationNo} {f : RosterEntry → RosterEntry} (hf : ∀ e, (f e).state = e.state)
    (hself : (s.member src).state ≠ .self) : ((s.taken src f).member src).state = .present := by
  rw [member_taken_self]
  exact (hf _).trans (heard_present hself)

theorem taken_silence (s : State) (src : StationNo) (f : RosterEntry → RosterEntry) :
    ((s.taken src f).member src).silence = .running (s.roster.lossWindow * intervalMs ((s.taken src f).member src).interval) 0 := by
  rw [member_taken_self]
  rfl

theorem fresh_heard {s : State} {src : StationNo} (h : (s.member src).state.unheard = true) {e : Entry} (he : e ∈ s.heardEntries src)
    (ho : e.owner = src) : e.stale = false := by
  rw [State.heardEntries, if_pos h] at he
  exact stale_of_mem_staleAs he ho

theorem apart_of_others {s : State} {src : StationNo} {es fs : List Entry}
    (h : es.filter (fun e => decide (e.owner ≠ src)) = fs.filter (fun e => decide (e.owner ≠ src))) :
    es.filter (s.apartFromSource src) = fs.filter (s.apartFromSource src) := by
  have himp (e : Entry) (he : s.apartFromSource src e = true) : decide (e.owner ≠ src) = true :=
    decide_eq_true (of_decide_eq_true he).1
  rw [← filter_filter_of_imp himp, h, filter_filter_of_imp himp]

/-- A state that a receiver comes to from the Roster's take, with the table's part left to show. -/
theorem hears_of_taken {s t : State} {src : StationNo} {f : RosterEntry → RosterEntry} (hf : ∀ e, (f e).state = e.state)
    (hself : (s.member src).state ≠ .self) (hgood : t.link.receivedGood = (s.taken src f).link.receivedGood)
    (hentries : t.roster.entries = (s.taken src f).roster.entries)
    (hfresh : (s.member src).state.unheard = true → ∀ e ∈ t.table.entries, e.owner = src → e.stale = false)
    (hothers : t.table.entries.filter (s.apartFromSource src) = s.table.entries.filter (s.apartFromSource src))
    (hmonitor : t.monitor = s.monitor) (hservice : t.service = s.service) (hpins : t.pins = s.pins) : s.hears src t := by
  have hmember (m : StationNo) : t.member m = (s.taken src f).member m := congrArg (fun v : Vector RosterEntry 48 => v[m.index]) hentries
  exact
    { good := hgood.trans (by rw [taken_link])
      present := by rw [hmember]; exact taken_present hf hself
      silence := by rw [hmember]; exact taken_silence s src f
      others := fun m hm => (hmember m).trans (member_taken_of_ne f s hm)
      fresh := hfresh, apart := hothers, monitor := hmonitor, service := hservice, pins := hpins }

end Sys2Proof.Machine

/-! PROOFS. A delivered frame proves its source alive (R33, R50, R52, R121, R124, R125), kind by kind. -/

namespace Sys2Proof.Machine

/-! ### From the table a command gives to the one its looks leave -/

theorem fresh_of_agreesOn {s : State} {src : StationNo} {u v : AlarmTable} (hne : s.me ≠ some src) {q : Condition → Bool}
    (hq : ∀ c, some c.owner ≠ s.me → q c = true) (h : u.agreesOn q v) (hfresh : ∀ e ∈ u.entries, e.owner = src → e.stale = false) :
    ∀ e ∈ v.entries, e.owner = src → e.stale = false := by
  intro e he ho
  have hin : e ∈ u.entries.filter (fun e => q e.condition) :=
    h.1 ▸ List.mem_filter.mpr ⟨he, hq e.condition fun heq => hne (heq.symm.trans (congrArg some ho))⟩
  exact hfresh e (List.mem_of_mem_filter hin) ho

theorem apart_of_agreesOn {s : State} {src : StationNo} {u v : AlarmTable} {q : Condition → Bool}
    (hq : ∀ c, some c.owner ≠ s.me → q c = true) (h : u.agreesOn q v) :
    v.entries.filter (s.apartFromSource src) = u.entries.filter (s.apartFromSource src) := by
  have himp (e : Entry) (he : s.apartFromSource src e = true) : q e.condition = true :=
    hq e.condition fun heq => (of_decide_eq_true he).2 heq.symm
  rw [← filter_filter_of_imp himp, h.1, filter_filter_of_imp himp]

/-- A receiver's state, by the table that its command gives. -/
theorem hears_of_settles {s t : State} {src : StationNo} {f : RosterEntry → RosterEntry} {u : AlarmTable} {k : Nat}
    (hf : ∀ e, (f e).state = e.state) (hself : (s.member src).state ≠ .self) (hne : s.me ≠ some src)
    (hgood : t.link.receivedGood = (s.taken src f).link.receivedGood) (hentries : t.roster.entries = (s.taken src f).roster.entries)
    (hsettles : s.settlesOn u k t)
    (hfresh : (s.member src).state.unheard = true → ∀ e ∈ u.entries, e.owner = src → e.stale = false)
    (hothers : u.entries.filter (fun e => decide (e.owner ≠ src)) = s.table.entries.filter (fun e => decide (e.owner ≠ src)))
    (hmonitor : t.monitor = s.monitor) (hservice : t.service = s.service) (hpins : t.pins = s.pins) : s.hears src t :=
  hears_of_taken hf hself hgood hentries
    (fun hunheard => fresh_of_agreesOn hne (fun _ => apartFromHealth_of_remote) hsettles.table (hfresh hunheard))
    ((apart_of_agreesOn (fun _ => apartFromHealth_of_remote) hsettles.table).trans (apart_of_others hothers)) hmonitor hservice hpins

/-- The entries and slots of the other stations, as a revival leaves them. -/
theorem leavesRemote_of_agreesOn {s t : State} {src : StationNo}
    (h : ({ s.table with entries := s.heardEntries src } : AlarmTable).agreesOn s.remote t.table) :
    t.table.entries.filter (fun e => decide (s.me ≠ some e.owner)) =
        (s.heardEntries src).filter (fun e => decide (s.me ≠ some e.owner)) ∧
      ∀ (g : GroupNo) (c : Condition), s.me ≠ some c.owner → (t.table.slots[g] = some c ↔ s.table.slots[g] = some c) := by
  obtain ⟨hentries, hwithin, hkept, -⟩ := h
  exact ⟨hentries, fun g c hc => ⟨hwithin g c, hkept g c (decide_eq_true hc)⟩⟩

/-- What of O37 is left to show of a kind: a state whose end of command is the answer. -/
def State.aliveBy (s : State) (f : Frame) (plain : Prop) : Prop :=
  ∃ t, exec (deliveryOf f) s = .next (finish t) ∧ t.me = s.me ∧ s.hears f.source t ∧
    (plain → ({ s.table with entries := s.heardEntries f.source } : AlarmTable).agreesOn s.remote t.table ∧
      ((∀ b, f.payload = .operator b → s.me = some b.target → s.marks = true) →
        s.leavesTable { s.table with entries := s.heardEntries f.source } (finish t)))

/-- A frame that is none of the table's own leaves the table as its source's revival does. -/
theorem plain_of_settles {s t : State} {src : StationNo} (h : s.settlesOn { s.table with entries := s.heardEntries src } 0 t) :
    ({ s.table with entries := s.heardEntries src } : AlarmTable).agreesOn s.remote t.table ∧
      s.leavesTable { s.table with entries := s.heardEntries src } (finish t) :=
  ⟨AlarmTable.agreesOn_mono h.table fun _ => apartFromHealth_of_isRemote, h.finish.leavesTable (by decide)⟩

/-! ### The count of good frames -/

theorem State.Looked.receivedGood {s t : State} (h : s.Looked t) : t.link.receivedGood = s.link.receivedGood := by
  obtain ⟨marks, hlink, -⟩ := h.link
  rw [hlink]

theorem repairAndTable_receivedGood (o : Orders) (src : StationNo) (b : DumpBody) (f : RosterEntry → RosterEntry) (s : State) :
    (repairAndTable o src b (awaitedRemove src (s.taken src f))).link.receivedGood = (s.taken src f).link.receivedGood := by
  have hended (t : State) : (endRepair src t).link.receivedGood = t.link.receivedGood := rfl
  unfold repairAndTable
  split
  · rw [applyDumpOf, takeChange_link, (causeMoment_looked o _).1.receivedGood, hended, awaitedRemove_link]
  · rw [hended, (causeMoment_looked o _).1.receivedGood, applyDumpOf, takeChange_link, awaitedRemove_link]

theorem requestDump_receivedGood (s : State) : (requestDump s).link.receivedGood = s.link.receivedGood := by
  unfold requestDump
  split <;> rfl

theorem answerJoin_receivedGood (s : State) : (answerJoin s).link.receivedGood = s.link.receivedGood := by
  obtain ⟨-, heq⟩ | ⟨-, heq⟩ := answerJoin_cases s <;> rw [heq]
  exact requestDump_receivedGood s

section
variable {s : State} {src : StationNo} (h : s.receives = true) (hne : s.me ≠ some src) (hself : (s.member src).state ≠ .self)
include h hne hself

/-! ### REPORT, DUMP and JOIN -/

theorem aliveBy_report (b : PointReport) : s.aliveBy ⟨src, .report b⟩ False := by
  refine ⟨s.reported src b, congrArg Host.Outcome.next (whenActive_deliver_other (own := fun _ => applyReport src b)
    (other := fun _ => receiveReport src b) h hne), (reported_settlesOn src b s).me, ?_, False.elim⟩
  refine hears_of_settles (f := id) (fun _ => rfl) hself hne ?_ ?_ (reported_settlesOn src b s) (fun hunheard e he ho => ?_) ?_ ?_ ?_ ?_
  · rw [State.reported, applyReport, takeChange_link]
  · rw [State.reported, applyReport, takeChange_roster]
  · exact (mem_applyContents he).elim (fun hin => fresh_heard hunheard hin ho) id
  · rw [State.reportTable, applyContents_entries]
    exact (applyContents_keepsOthers ..).1.trans (heardEntries_apart s src)
  · rw [State.reported, applyReport, takeChange_monitor, taken_monitor]
  · rw [State.reported, applyReport, takeChange_service, taken_service]
  · rw [State.reported, applyReport, takeChange_pins, taken_pins]

theorem aliveBy_dump (b : DumpBody) : s.aliveBy ⟨src, .dump b⟩ False := by
  refine ⟨_, congrArg Host.Outcome.next (whenActive_deliver_other (own := fun _ => applyDumpOf src b)
    (other := fun o => receiveDump o src b) h hne), ?_⟩
  obtain ⟨hcontrol, hroster, hmonitor, hservice, hpins, -, -⟩ :=
    repairAndTable_facts (Config.orders s.draws) src b (awaitedRemove src (s.taken src (recordDump b)))
  obtain ⟨hentries, hme, hmarks⟩ := awaitedRemove_frame src (s.taken src (recordDump b))
  have hsettles := repairAndTable_settlesOn (Config.orders s.draws) b hne
    ((taken_settlesOn src (recordDump b) s).act hme hmarks (awaitedRemove_engine ..) (awaitedRemove_table ..))
  refine ⟨hsettles.me, ?_, False.elim⟩
  refine hears_of_settles (f := recordDump b) (fun _ => rfl) hself hne ?_ ((congrArg Roster.entries hroster).trans hentries) hsettles
    (fun _ e he ho => (applyDump_own ⟨s.table, []⟩ he ho).1) (applyDump_others ⟨s.table, []⟩) ?_ ?_ ?_
  · exact repairAndTable_receivedGood ..
  · exact hmonitor.trans ((awaitedRemove_monitor ..).trans (taken_monitor ..))
  · exact hservice.trans ((awaitedRemove_service ..).trans (taken_service ..))
  · exact hpins.trans ((awaitedRemove_pins ..).trans (taken_pins ..))

theorem aliveBy_join (b : JoinBody) : s.aliveBy ⟨src, .join b⟩ False := by
  obtain ⟨hcontrol, hengine, htable, hroster, -, hmonitor, hservice, hpins, hmarks⟩ := answerJoin_frame (s.joined src b)
  have hsettles := (joined_settlesOn src b s).act (me_of_control hcontrol) (hmarks ▸ id) hengine htable
  obtain ⟨hnone, -⟩ := withoutOwner_none s src
  refine ⟨answerJoin (s.joined src b), congrArg Host.Outcome.next (whenActive_deliver_other (own := fun _ => ownJoin src b)
    (other := fun _ => receiveJoin src b) h hne), hsettles.me, ?_, False.elim⟩
  refine hears_of_settles (f := recordJoin b) (fun _ => rfl) hself hne ?_ ?_ hsettles
    (fun _ e he ho => absurd ho (hnone e he)) ?_ ?_ ?_ ?_
  · rw [answerJoin_receivedGood, joined_link, taken_link]
  · rw [hroster, State.joined, removeJoiner, takeChange_roster]
  · exact filter_filter_of_imp (fun _ => id) _
  · rw [hmonitor, State.joined, removeJoiner, takeChange_monitor, taken_monitor]
  · rw [hservice, State.joined, removeJoiner, takeChange_service, taken_service]
  · rw [hpins, State.joined, removeJoiner, takeChange_pins, taken_pins]

end

end Sys2Proof.Machine

/-! PROOFS. A delivered OPERATOR, RESYNC_REQUEST and PRESENCE prove their source alive (R121, R124, R125). -/

namespace Sys2Proof.Machine

/-! ### What the kinds' own acts leave of the link and the roster -/

theorem handOver_receivedGood (p : PointNo) (s : State) : (handOver p s).link.receivedGood = s.link.receivedGood := by
  unfold handOver
  split
  · rw [requestReport_link]
  · rw [localDeliver_link]

theorem itemsFold_receivedGood (a : Action) (items : List Item) (s : State) :
    (items.foldl (takeItem a) s).link.receivedGood = s.link.receivedGood := by
  induction items generalizing s with
  | nil => rfl
  | cons i rest ih =>
    refine (ih _).trans ?_
    unfold takeItem
    split
    · exact handOver_receivedGood i.point _
    · rfl

theorem answerResync_others (owners : List StationNo) (s : State) :
    (answerResync owners s).engine = s.engine ∧ (answerResync owners s).table = s.table ∧
      (answerResync owners s).roster = s.roster ∧ (answerResync owners s).link.receivedGood = s.link.receivedGood ∧
      (answerResync owners s).link.lanesOpen = s.link.lanesOpen := by
  unfold answerResync
  split
  · simp [requestDump_receivedGood]
  · simp

theorem compareDigest_receivedGood (n : StationNo) (b : PresenceBody) (s : State) :
    (compareDigest n b s).link.receivedGood = s.link.receivedGood := by
  have hrequest (t : State) : (requestOwner n t).link.receivedGood = t.link.receivedGood := by
    unfold requestOwner
    split <;> rfl
  obtain ⟨-, heq⟩ | ⟨-, ⟨-, heq⟩ | ⟨-, heq⟩⟩ := compareDigest_cases n b s <;> rw [heq]
  · rfl
  · exact hrequest _

section
variable {s : State} {src : StationNo} (h : s.receives = true) (hne : s.me ≠ some src) (hself : (s.member src).state ≠ .self)
include h hne hself

/-! ### OPERATOR -/

/-- The target's items leave the entries of the others, and in a state that marks the whole table (R9, R12). -/
theorem aliveBy_operator_target (b : OperatorBody) (htarget : s.me = some b.target) (plain : Prop) :
    s.aliveBy ⟨src, .operator b⟩ plain := by
  obtain ⟨hactive, -, -⟩ := of_receives h
  have hactive' : (s.taken src id).active = true := (active_of_control (taken_control ..)).trans hactive
  have hreceive : receiveOperator src b s.counted = b.items.foldl (takeItem b.action) (s.taken src id) :=
    (if_pos ((taken_me ..).trans htarget)).trans (takeItems_of_active hactive')
  obtain ⟨hcontrol, hmonitor, hservice, hpins⟩ := takeItems_frame b.action b.items (s.taken src id)
  rw [takeItems_of_active hactive'] at hcontrol hmonitor hservice hpins
  have hroster : (b.items.foldl (takeItem b.action) (s.taken src id)).roster = (s.taken src id).roster := by
    rw [← takeItems_of_active hactive', takeItems_roster]
  have hitems : ({ s.table with entries := s.heardEntries src } : AlarmTable).agreesOn s.remote
      (b.items.foldl (takeItem b.action) (s.taken src id)).table := by
    rw [← taken_table src id s]
    exact itemsFold_agreesOn (fun n p hn => remote_of_own ((taken_me src id s).symm.trans hn)) b.action b.items
  have hremote (c : Condition) (hc : some c.owner ≠ s.me) : s.remote c = true := decide_eq_true fun heq => hc heq.symm
  refine ⟨b.items.foldl (takeItem b.action) (s.taken src id), ?_, (me_of_control hcontrol).trans (taken_me ..), ?_,
    fun _ => ⟨hitems, fun hmarked => ?_⟩⟩
  · rw [← hreceive]
    exact congrArg Host.Outcome.next (whenActive_deliver_other (own := fun _ => id) (other := fun _ => receiveOperator src b) h hne)
  · refine hears_of_taken (f := id) (fun _ => rfl) hself ?_ (congrArg Roster.entries hroster)
      (fun hunheard => fresh_of_agreesOn hne hremote hitems fun e he ho => fresh_heard hunheard he ho)
      ((apart_of_agreesOn hremote hitems).trans (apart_of_others (heardEntries_apart s src))) (hmonitor.trans (taken_monitor ..))
      (hservice.trans (taken_service ..)) (hpins.trans (taken_pins ..))
    exact itemsFold_receivedGood b.action b.items (s.taken src id)
  · have hmarks : (s.taken src id).marks = true := (taken_marks src id s).trans (hmarked b rfl htarget)
    obtain ⟨htable, hmarks'⟩ := itemsFold_of_marks hmarks b.action b.items
    exact leavesTable_of_eq ((finish_table_of_marks hmarks').trans (htable.trans (taken_table ..)))

theorem aliveBy_operator_other (b : OperatorBody) (htarget : s.me ≠ some b.target) (plain : Prop) :
    s.aliveBy ⟨src, .operator b⟩ plain := by
  have hreceive : receiveOperator src b s.counted = s.taken src id := if_neg fun hown => htarget ((taken_me src id s).symm.trans hown)
  obtain ⟨hremote, hleaves⟩ := plain_of_settles (taken_settlesOn src id s)
  refine ⟨s.taken src id, ?_, taken_me .., ?_, fun _ => ⟨hremote, fun _ => hleaves⟩⟩
  · rw [← hreceive]
    exact congrArg Host.Outcome.next (whenActive_deliver_other (own := fun _ => id) (other := fun _ => receiveOperator src b) h hne)
  · exact hears_of_settles (f := id) (fun _ => rfl) hself hne rfl rfl (taken_settlesOn src id s)
      (fun hunheard _ he ho => fresh_heard hunheard he ho) (heardEntries_apart s src) (taken_monitor ..) (taken_service ..) (taken_pins ..)

/-! ### RESYNC_REQUEST -/

theorem aliveBy_resync (owners : List StationNo) (plain : Prop) : s.aliveBy ⟨src, .resyncRequest owners⟩ plain := by
  obtain ⟨hcontrol, hrepair, hmonitor, hservice, hpins, hsending⟩ := answerResync_frame owners (s.taken src id)
  obtain ⟨hengine, htable, hroster, hgood, hopen⟩ := answerResync_others owners (s.taken src id)
  have hfold := withdrawFold_eq owners (answerResync owners (s.taken src id))
  have hsettles := (taken_settlesOn src id s).act (t' := receiveResync src owners s.counted)
    (me_of_control (by rw [show receiveResync src owners s.counted = _ from hfold]; exact hcontrol))
    (fun hm => (marks_congr (by rw [show receiveResync src owners s.counted = _ from hfold]; exact hcontrol)
      (by rw [show receiveResync src owners s.counted = _ from hfold]; exact hopen)).trans hm)
    (by rw [show receiveResync src owners s.counted = _ from hfold]; exact hengine)
    (by rw [show receiveResync src owners s.counted = _ from hfold]; exact htable)
  obtain ⟨hremote, hleaves⟩ := plain_of_settles hsettles
  refine ⟨receiveResync src owners s.counted,
    congrArg Host.Outcome.next (whenActive_deliver_other (own := fun _ => id) (other := fun _ => receiveResync src owners) h hne),
    hsettles.me, ?_, fun _ => ⟨hremote, fun _ => hleaves⟩⟩
  refine hears_of_settles (f := id) (fun _ => rfl) hself hne ?_ ?_ hsettles (fun hunheard _ he ho => fresh_heard hunheard he ho)
    (heardEntries_apart s src) ?_ ?_ ?_ <;> rw [show receiveResync src owners s.counted = _ from hfold]
  · exact hgood
  · exact congrArg Roster.entries hroster
  · exact hmonitor.trans (taken_monitor ..)
  · exact hservice.trans (taken_service ..)
  · exact hpins.trans (taken_pins ..)

/-! ### PRESENCE -/

theorem aliveBy_presence (b : PresenceBody) : s.aliveBy ⟨src, .presence b⟩ (¬s.restarts src b.restartCount) := by
  obtain ⟨u, hu, heq⟩ := receivePresence_eq (Config.orders s.draws) src b s
  obtain ⟨-, -, hlink, -⟩ := comparisonState_frame hu
  have hsettles := present_settlesOn (src := src) (b := b) hlink
  have hmember (m : StationNo) : (s.present src b u).member m = (s.checked src b).member m :=
    congrArg (fun r : Roster => r.entries[m.index]) (present_roster src b s u)
  have hfresh : (s.member src).state.unheard = true → ∀ e ∈ (s.checked src b).table.entries, e.owner = src → e.stale = false := by
    intro hunheard e he ho
    by_cases hrestart : s.restarts src b.restartCount
    · rw [checked_table_of_restart _ _ _ hrestart] at he
      exact absurd ho ((withoutOwner_none s src).1 e he)
    · rw [checked_table_of_none _ _ _ hrestart] at he
      exact fresh_heard hunheard he ho
  have hothers : (s.checked src b).table.entries.filter (fun e => decide (e.owner ≠ src)) =
      s.table.entries.filter (fun e => decide (e.owner ≠ src)) := by
    by_cases hrestart : s.restarts src b.restartCount
    · rw [checked_table_of_restart _ _ _ hrestart]
      exact filter_filter_of_imp (fun _ => id) _
    · rw [checked_table_of_none _ _ _ hrestart]
      exact heardEntries_apart s src
  refine ⟨s.present src b u, ?_, hsettles.me, ?_, fun hnone => ?_⟩
  · rw [State.present, ← heq]
    exact congrArg Host.Outcome.next (whenActive_deliver_other (own := fun _ => id) (other := fun o => receivePresence o src b) h hne)
  · exact
      { good := by rw [present_link, compareDigest_receivedGood, hlink]; rfl
        present := by rw [hmember, member_checked_self]; exact heard_present hself
        silence := by rw [hmember, member_checked_self]; rfl
        others := fun m hm => by rw [hmember, member_checked_of_ne _ _ _ hm]
        fresh := fun hunheard => fresh_of_agreesOn hne (fun _ => apartFromHealth_of_remote) hsettles.table (hfresh hunheard)
        apart := (apart_of_agreesOn (fun _ => apartFromHealth_of_remote) hsettles.table).trans (apart_of_others hothers)
        monitor := present_monitor .., service := present_service .., pins := present_pins .. }
  · rw [checked_table_of_none _ _ _ hnone] at hsettles
    obtain ⟨hremote, hleaves⟩ := plain_of_settles hsettles
    exact ⟨hremote, fun _ => hleaves⟩

end

/-- A frame, by its kind: nothing is left to show of the entries of a frame that is the table's own. -/
theorem aliveBy_of_frame {s : State} {f : Frame} (h : s.receives = true) (hne : s.me ≠ some f.source)
    (hself : (s.member f.source).state ≠ .self) (hleave : ∀ c, f.payload ≠ .leave c) :
    s.aliveBy f ((∀ b, f.payload ≠ .report b) ∧ (∀ b, f.payload ≠ .dump b) ∧ f.payload.isJoin = false ∧
      ∀ b c, f.payload = .presence b → (s.member f.source).restartCount = some c → c = b.restartCount) := by
  obtain ⟨src, payload⟩ := f
  have hweaken {p q : Prop} (hq : q → p) (halive : s.aliveBy ⟨src, payload⟩ p) : s.aliveBy ⟨src, payload⟩ q := by
    obtain ⟨t, hexec, hme, hhears, hplain⟩ := halive
    exact ⟨t, hexec, hme, hhears, fun h => hplain (hq h)⟩
  cases payload with
  | report b => exact hweaken (fun ⟨hno, _⟩ => hno b rfl) (aliveBy_report h hne hself b)
  | operator b =>
    by_cases htarget : s.me = some b.target
    · exact aliveBy_operator_target h hne hself b htarget _
    · exact aliveBy_operator_other h hne hself b htarget _
  | resyncRequest owners => exact aliveBy_resync h hne hself owners _
  | dump b => exact hweaken (fun ⟨_, hno, _⟩ => hno b rfl) (aliveBy_dump h hne hself b)
  | join b => exact hweaken (fun ⟨_, _, hno, _⟩ => nomatch hno) (aliveBy_join h hne hself b)
  | presence b =>
    exact hweaken (fun ⟨_, _, _, hsame⟩ ⟨c, hc, hdiffer⟩ => hdiffer (hsame b c rfl hc)) (aliveBy_presence h hne hself b)
  | leave c => exact absurd rfl (hleave c)

/-- Settles O37: the state that each kind's receiver comes to, and the one look of the monitor after it. -/
theorem deliveredFrameProvesItsSourceAlive : Obligations.DeliveredFrameProvesItsSourceAlive := by
  intro s f h hne hself hleave
  obtain ⟨t, hexec, hme, hhears, hplain⟩ := aliveBy_of_frame h hne hself hleave
  have hend := hhears.finish hne hme
  refine ⟨_, hexec, hend.good, hend.present, hend.silence, hend.others, fun hstate => hend.fresh ?_, hend.apart,
    fun hreport hdump hjoin hcount => ?_, hend.monitor, hend.service, hend.pins⟩
  · obtain hstate | hstate | hstate := hstate <;> rw [hstate] <;> rfl
  · obtain ⟨hremote, hleaves⟩ := hplain ⟨hreport, hdump, hjoin, hcount⟩
    have hlooked : t.table.agreesOn s.remote (finish t).table :=
      AlarmTable.agreesOn_mono (finish_looked t).1.table fun c hc => by
        rw [apartFromHealth_congr hme]
        exact apartFromHealth_of_isRemote hc
    obtain ⟨hentries, hslots⟩ := leavesRemote_of_agreesOn (AlarmTable.agreesOn_trans hremote hlooked)
    exact ⟨hentries, hslots, hleaves⟩

end Sys2Proof.Machine

/-! PROOFS. The sender's own act at the delivery of its frame (R88, R92, R131, R179). -/

namespace Sys2Proof.Machine

/-! ### The act by the kind of the frame -/

/-- What the sender of a delivered frame does after the Link Controller's own effects. -/
def ownAct (o : Orders) (f : Frame) (s : State) : State :=
  match f.payload with
  | .report b => applyReport f.source b s
  | .dump b => applyDumpOf f.source b s
  | .join b => ownJoin f.source b s
  | .leave _ => ownLeave o s
  | _ => s

theorem exec_ownDelivery {s : State} {a : Attempt} (hactive : s.active = true) (hsend : s.link.sending = some a) :
    exec (deliveryOf a.frame) s =
      .next (finish (ownAct (Config.orders s.draws) a.frame (ownDelivered (Config.orders s.draws) a.lane s.drawn))) := by
  obtain ⟨lane, ⟨src, payload⟩⟩ := a
  have hown (own other : State → State) :
      whenActive (fun s => finish (deliver (Config.orders s.draws) ⟨src, payload⟩ own other s.drawn)) s =
        finish (own (ownDelivered (Config.orders s.draws) lane s.drawn)) := by
    rw [show whenActive (fun s => finish (deliver (Config.orders s.draws) ⟨src, payload⟩ own other s.drawn)) s =
      finish (deliver (Config.orders s.draws) ⟨src, payload⟩ own other s.drawn) from if_pos hactive, deliver_own hactive hsend]
  cases payload with
  | report b => exact congrArg Host.Outcome.next (hown (applyReport src b) (receiveReport src b))
  | operator b => exact congrArg Host.Outcome.next (hown id (receiveOperator src b))
  | resyncRequest os => exact congrArg Host.Outcome.next (hown id (receiveResync src os))
  | dump b => exact congrArg Host.Outcome.next (hown (applyDumpOf src b) (receiveDump (Config.orders s.draws) src b))
  | join b => exact congrArg Host.Outcome.next (hown (ownJoin src b) (receiveJoin src b))
  | presence b => exact congrArg Host.Outcome.next (hown id (receivePresence (Config.orders s.draws) src b))
  | leave c => exact congrArg Host.Outcome.next (hown (ownLeave (Config.orders s.draws)) (takeLeave (Config.orders s.draws) src))

/-! ### The blocks that no own act touches -/

theorem ownJoin_blocks (n : StationNo) (b : JoinBody) (s : State) :
    (ownJoin n b s).monitor = s.monitor ∧ (ownJoin n b s).service = s.service ∧ (ownJoin n b s).pins = s.pins := by
  unfold ownJoin
  split
  · unfold runIfNoneAwaited
    split <;> unfold recordOwnCause <;> split <;> simp [removeJoiner, formAwaited, openLanes]
  · exact ⟨rfl, rfl, rfl⟩

theorem ownLeave_blocks (o : Orders) (s : State) :
    (ownLeave o s).monitor = s.monitor ∧ (ownLeave o s).service = s.service ∧ (ownLeave o s).pins = s.pins := by
  unfold ownLeave
  split <;> simp

theorem ownAct_blocks (o : Orders) (f : Frame) (s : State) :
    (ownAct o f s).monitor = s.monitor ∧ (ownAct o f s).service = s.service ∧ (ownAct o f s).pins = s.pins := by
  unfold ownAct
  split
  · simp [applyReport]
  · simp [applyDumpOf]
  · exact ownJoin_blocks ..
  · exact ownLeave_blocks ..
  · exact ⟨rfl, rfl, rfl⟩

/-! ### The Link Controller after an own act -/

/-- An own JOIN's delivery opens the lanes and asks for the DUMP. -/
theorem ownJoin_link (n : StationNo) (b : JoinBody) (s : State) :
    ∃ opened repair, (ownJoin n b s).link = { s.link with lanesOpen := opened, lanes := { s.link.lanes with repair := repair } } := by
  by_cases hjoining : s.control.station = .joining
  · rw [ownJoin_of_joining n b hjoining, runIfNoneAwaited_link, ownJoinSteps, removeJoiner, takeChange_link]
    have hlink : (formAwaited (recordOwnCause b.cause (openLanes s))).link = { s.link with lanesOpen := true } := by
      simp [formAwaited, openLanes]
    unfold requestDump
    split
    · rw [State.withLanes, withLink_link, hlink]
      exact ⟨_, _, rfl⟩
    · rw [hlink]
      exact ⟨_, _, rfl⟩
  · rw [ownJoin, if_neg hjoining]
    exact ⟨_, _, rfl⟩

/-- Only a LEAVE's delivery does more to the lanes than an own JOIN's does. -/
theorem ownAct_link_of_stays {o : Orders} {f : Frame} (hleave : ∀ c, f.payload ≠ .leave c) (s : State) :
    ∃ opened repair, (ownAct o f s).link = { s.link with lanesOpen := opened, lanes := { s.link.lanes with repair := repair } } := by
  unfold ownAct
  split
  · exact ⟨_, _, takeChange_link _ s⟩
  · exact ⟨_, _, takeChange_link _ s⟩
  · exact ownJoin_link ..
  · next c hc => exact absurd hc (hleave c)
  · exact ⟨_, _, rfl⟩

/-- An own act apart from those of a JOIN and a LEAVE is a change of the table, or nothing. -/
theorem ownAct_plain {o : Orders} {f : Frame} (hleave : ∀ c, f.payload ≠ .leave c) (hjoin : f.payload.isJoin = false) (s : State) :
    (ownAct o f s).link = s.link ∧ (ownAct o f s).control = s.control ∧ (ownAct o f s).engine = s.engine := by
  unfold ownAct
  split
  · exact ⟨takeChange_link _ s, takeChange_control _ s, takeChange_engine _ s⟩
  · exact ⟨takeChange_link _ s, takeChange_control _ s, takeChange_engine _ s⟩
  · next b hb =>
    rw [hb] at hjoin
    cases hjoin
  · next c hc => exact absurd hc (hleave c)
  · exact ⟨rfl, rfl, rfl⟩

/-- The own LEAVE's delivery replaces the lanes (R99, R178). -/
theorem ownLeave_link {o : Orders} {s : State} (hsend : s.link.sending = none) (hrun : s.link.undeliveredRun = 0) :
    ∃ opened lanes, (ownLeave o s).link = { s.link with lanesOpen := opened, lanes := lanes } := by
  have hsilent : (enterSilent o .departed s).link = { s.link with lanes := .empty } := by
    rw [enterSilent_link_eq, ← hsend, ← hrun]
  unfold ownLeave
  split
  · cases hsupply : s.control.supply with
    | low =>
      rw [enterDeparted_of_low hsupply, hsilent]
      exact ⟨_, _, rfl⟩
    | normal =>
      rw [enterDeparted_of_normal hsupply, joinCore_link, hsilent]
      exact ⟨_, _, rfl⟩
  · exact ⟨_, _, rfl⟩

theorem ownAct_link {o : Orders} (f : Frame) {s : State} (hsend : s.link.sending = none) (hrun : s.link.undeliveredRun = 0) :
    ∃ opened lanes, (ownAct o f s).link = { s.link with lanesOpen := opened, lanes := lanes } := by
  by_cases hleave : ∃ c, f.payload = .leave c
  · obtain ⟨c, hc⟩ := hleave
    rw [ownAct, hc]
    exact ownLeave_link hsend hrun
  · obtain ⟨opened, repair, heq⟩ := ownAct_link_of_stays (o := o) (fun c hc => hleave ⟨c, hc⟩) s
    exact ⟨opened, _, heq⟩

/-! ### The flags after an own act (R39, R55) -/

/-- Whether a slot may be given is no matter of the flags. -/
theorem applyContents_flagsOfGive (me : Option StationNo) (give : Bool) (src : StationNo) (r : PointReport) (ch : Change) :
    (applyContents me give src r ch).table.tableOverflow = (applyContents me false src r ch).table.tableOverflow := by
  unfold applyContents
  split
  · rfl
  · split
    · rfl
    · unfold createEntry
      split <;> rfl

theorem tableOverflow_of_apartFrom {n : StationNo} {t u : AlarmTable} (h : u.apartFrom n = t.apartFrom n) :
    u.tableOverflow = t.tableOverflow := (congrArg AlarmTable.tableOverflow h :)

theorem dumpApply_apartFrom {n : StationNo} (records : List DumpRecord) (ch : Change) (hlaw : overflowLaw (some n) ch.table) :
    (dumpApply (some n) n records ch).table.apartFrom n = ch.table.apartFrom n := by
  induction records generalizing ch with
  | nil => rfl
  | cons r rest ih =>
    have hone := applyContents_apartFrom (dumpReport r) hlaw
    exact (ih _ (by rwa [← overflowLaw_apartFrom, hone, overflowLaw_apartFrom])).trans hone

/-- The own DUMP moves own entries and slots alone, so it takes and frees no shared place. -/
theorem applyDump_own_tableOverflow {n : StationNo} (records : List DumpRecord) (ch : Change) (hlaw : overflowLaw (some n) ch.table) :
    (applyDump (some n) n records ch).table.tableOverflow = ch.table.tableOverflow := by
  have happly := dumpApply_apartFrom records ch hlaw
  have hlaw' : overflowLaw (some n) (dumpApply (some n) n records ch).table := by
    rwa [← overflowLaw_apartFrom, happly, overflowLaw_apartFrom]
  have hremove := removeAll_apartFrom (unlisted n records (dumpApply (some n) n records ch).table.entries) _
    (fun _ => owner_of_mem_unlisted) hlaw'
  obtain ⟨-, -, hflag⟩ := applyDump_flags (me := some n) (src := n) (records := records) ch
  obtain ⟨-, -, -, halign⟩ := dumpAlign_keeps n records (dumpRemove (some n) n records (dumpApply (some n) n records ch))
  exact hflag.trans (halign.trans (tableOverflow_of_apartFrom (hremove.trans happly)))

/-- An own REPORT or DUMP moves no cause of point 16 (R17). -/
theorem ownAct_anyCause {o : Orders} {f : Frame} {s : State} (hleave : ∀ c, f.payload ≠ .leave c) (hjoin : f.payload.isJoin = false)
    (hme : s.me = some f.source) (hlaw : overflowLaw s.me s.table) : (ownAct o f s).anyCause = s.anyCause := by
  unfold ownAct
  split
  · next b _ =>
    refine takeChange_anyCause ?_
    rw [hme] at hlaw ⊢
    have hflag := applyContents_apartFrom (n := f.source) (ch := ⟨s.table, []⟩) b hlaw
    exact (applyContents_flagsOfGive ..).trans (tableOverflow_of_apartFrom hflag)
  · next b _ =>
    refine takeChange_anyCause ?_
    rw [hme] at hlaw ⊢
    exact applyDump_own_tableOverflow b.records ⟨s.table, []⟩ hlaw
  · next b hb =>
    rw [hb] at hjoin
    cases hjoin
  · next c hc => exact absurd hc (hleave c)
  · rfl

end Sys2Proof.Machine

/-! PROOFS. The delivery of the own frame (R17, R39, R40, R43, R88, R94 to R97). -/

namespace Sys2Proof.Machine

/-! ### The REPORT lane at a look of the monitor -/

/-- A look of the monitor leaves the REPORT lane, or asks it for the mark of point 16. -/
def looksAtReport (onAir : Bool) (before after : List ReportMark) : Prop := after = before ∨ after = requestMark onAir 16 before

theorem healthSync_report (s : State) :
    ∃ marks, (healthSync s).link = { s.link with lanes := { s.link.lanes with report := marks } } ∧
      looksAtReport (s.onAir .report) s.link.lanes.report marks := by
  obtain ⟨x, heq | heq⟩ := healthSync_cases s <;> rw [heq]
  · exact ⟨_, rfl, .inl rfl⟩
  · unfold handOver
    split
    · exact ⟨_, rfl, .inr rfl⟩
    · exact ⟨_, localDeliver_link .., .inl rfl⟩

theorem causeMoment_report (o : Orders) (s : State) :
    ∃ marks, (causeMoment o s).link = { s.link with lanes := { s.link.lanes with report := marks } } ∧
      looksAtReport (s.onAir .report) s.link.lanes.report marks := by
  unfold causeMoment
  split
  · exact healthSync_report s
  · exact ⟨_, rfl, .inl rfl⟩

theorem filter_dropReport_cons (m : ReportMark) (rest : List ReportMark) :
    (dropReport (m :: rest)).filter (fun m => decide (m.point ≠ 16)) =
      rest.filter (fun m => decide (m.point ≠ 16)) ++ if m.again = true ∧ m.point ≠ 16 then [freshMark m.point] else [] := by
  rw [dropReport]
  by_cases hagain : m.again = true <;> by_cases hpoint : m.point = 16 <;> simp [hagain, hpoint, List.filter_append, freshMark]

/-- The request of a mark of point 16 before the head leaves is, apart from that point, none. -/
theorem dropReport_looksAtReport {onAir : Bool} {before after : List ReportMark} (h : looksAtReport onAir before after) :
    (dropReport after).filter (fun m => decide (m.point ≠ 16)) = (dropReport before).filter (fun m => decide (m.point ≠ 16)) := by
  obtain rfl | rfl := h
  · rfl
  · cases before with
    | nil => rfl
    | cons m rest =>
      unfold requestMark
      split
      · dsimp only
        split
        · next hsent => rw [filter_dropReport_cons, filter_dropReport_cons, hsent.2]; simp
        · rfl
      · rw [List.cons_append, filter_dropReport_cons, filter_dropReport_cons, List.filter_append]
        simp [freshMark]

/-- The lanes apart from a mark of point 16 (R17). -/
structure Lanes.agreesApartFromHealth (l l' : Lanes) : Prop where
  operator : l'.operator = l.operator
  repair : l'.repair = l.repair
  roll : l'.roll = l.roll
  leaveOwed : l'.leaveOwed = l.leaveOwed
  report : l'.report.filter (fun m => decide (m.point ≠ 16)) = l.report.filter (fun m => decide (m.point ≠ 16))

theorem dropDelivered_agrees (lane : Lane) {onAir : Bool} {l : Lanes} {marks : List ReportMark}
    (h : looksAtReport onAir l.report marks) :
    (dropDelivered lane l).agreesApartFromHealth (dropDelivered lane { l with report := marks }) := by
  have hmarks : marks.filter (fun m => decide (m.point ≠ 16)) = l.report.filter (fun m => decide (m.point ≠ 16)) := by
    obtain rfl | rfl := h
    · rfl
    · exact requestMark_others onAir 16 l.report
  cases lane with
  | report => exact ⟨rfl, rfl, rfl, rfl, dropReport_looksAtReport h⟩
  | operator => exact ⟨rfl, rfl, rfl, rfl, hmarks⟩
  | repair => exact ⟨rfl, rfl, rfl, rfl, hmarks⟩
  | roll =>
    unfold dropDelivered rollDelivered
    dsimp only
    split <;> exact ⟨rfl, rfl, rfl, rfl, hmarks⟩

/-! ### The Link Controller's own effects -/

/-- The Link Controller once its frame is delivered, with the REPORT lane as a look of the monitor leaves it (R17, R88). -/
def deliveredLink (lane : Lane) (l : LinkController) (marks : List ReportMark) : LinkController :=
  { l with
    delivered := l.delivered.bump, undeliveredRun := 0, objecting := false,
    degraded := l.degraded && headAttempt lane l.lanes != 1, lanes := dropDelivered lane { l.lanes with report := marks },
    sending := none }

theorem ownDelivered_link (o : Orders) (lane : Lane) (s : State) :
    ∃ marks, (ownDelivered o lane s).link = deliveredLink lane s.link marks ∧
      looksAtReport (s.onAir .report) s.link.lanes.report marks := by
  obtain ⟨marks, hlink, hmarks⟩ := causeMoment_report o (ownCounted lane s)
  refine ⟨marks, ?_, hmarks⟩
  rw [show ownDelivered o lane s = (causeMoment o (ownCounted lane s)).withLink
    { (causeMoment o (ownCounted lane s)).link with
      lanes := dropDelivered lane (causeMoment o (ownCounted lane s)).link.lanes, sending := none } from rfl, withLink_link, hlink]
  rfl

theorem ownDelivered_table_of_marks {o : Orders} {lane : Lane} {s : State} (h : s.marks = true) :
    (ownDelivered o lane s).table = s.table := (causeMoment_looked o (ownCounted lane s)).1.marked h

theorem ownDelivered_marks (o : Orders) (lane : Lane) (s : State) : (ownDelivered o lane s).marks = s.marks := by
  obtain ⟨marks, hlink, -⟩ := ownDelivered_link o lane s
  exact marks_congr (ownDelivered_control ..) (by rw [hlink]; rfl)

/-- Where LINK_DEGRADED stays and the causes are settled the monitor finds no change (R17). -/
theorem ownDelivered_of_settled {o : Orders} {lane : Lane} {s : State} (hcause : s.anyCause = s.engine.healthLevel)
    (hdegraded : s.link.degraded = true → headAttempt lane s.link.lanes ≠ 1) :
    (ownDelivered o lane s).link = deliveredLink lane s.link s.link.lanes.report ∧ (ownDelivered o lane s).table = s.table ∧
      (ownDelivered o lane s).anyCause = (ownDelivered o lane s).engine.healthLevel := by
  have hkept : (s.link.degraded && headAttempt lane s.link.lanes != 1) = s.link.degraded := by
    cases hd : s.link.degraded with
    | false => rfl
    | true => simp [hdegraded hd]
  have hcounted : (ownCounted lane s).anyCause = (ownCounted lane s).engine.healthLevel :=
    (anyCause_congr (s := s) (t := ownCounted lane s) rfl rfl hkept rfl).trans hcause
  have hmoment : causeMoment o (ownCounted lane s) = ownCounted lane s := by
    unfold causeMoment
    split
    · exact healthSync_of_eq _ hcounted
    · rfl
  have hstate : ownDelivered o lane s = (ownCounted lane s).withLink (deliveredLink lane s.link s.link.lanes.report) := by
    rw [show ownDelivered o lane s = (causeMoment o (ownCounted lane s)).withLink
      { (causeMoment o (ownCounted lane s)).link with
        lanes := dropDelivered lane (causeMoment o (ownCounted lane s)).link.lanes, sending := none } from rfl, hmoment]
    rfl
  rw [hstate]
  exact ⟨rfl, rfl,
    (anyCause_congr (s := s) (t := (ownCounted lane s).withLink (deliveredLink lane s.link s.link.lanes.report)) rfl rfl hkept rfl).trans hcause⟩

/-! ### The whole delivery -/

/-- The state after the delivery of the station's own frame. -/
def State.ownDelivery (s : State) (a : Attempt) : State :=
  ownAct (Config.orders s.draws) a.frame (ownDelivered (Config.orders s.draws) a.lane s.drawn)

section
variable (s : State) (a : Attempt)

theorem ownDelivery_blocks : (s.ownDelivery a).monitor = s.monitor ∧ (s.ownDelivery a).service = s.service ∧ (s.ownDelivery a).pins = s.pins := by
  obtain ⟨hmonitor, hservice, hpins⟩ :=
    ownAct_blocks (Config.orders s.draws) a.frame (ownDelivered (Config.orders s.draws) a.lane s.drawn)
  exact ⟨hmonitor.trans (ownDelivered_monitor ..), hservice.trans (ownDelivered_service ..), hpins.trans (ownDelivered_pins ..)⟩

/-- What the sender counts (R88). -/
theorem ownDelivery_counts :
    (finish (s.ownDelivery a)).link.delivered = s.link.delivered.bump ∧ (finish (s.ownDelivery a)).link.undeliveredRun = 0 ∧
      (finish (s.ownDelivery a)).link.sending = none ∧ (finish (s.ownDelivery a)).link.receivedGood = s.link.receivedGood ∧
      (finish (s.ownDelivery a)).link.degraded = (s.link.degraded && decide (headAttempt a.lane s.link.lanes ≠ 1)) := by
  obtain ⟨marks, hdelivered, -⟩ := ownDelivered_link (Config.orders s.draws) a.lane s.drawn
  obtain ⟨opened, lanes, hact⟩ := ownAct_link (o := Config.orders s.draws) a.frame
    (s := ownDelivered (Config.orders s.draws) a.lane s.drawn) (by rw [hdelivered]; rfl) (by rw [hdelivered]; rfl)
  obtain ⟨marks', hlink, -⟩ := (finish_looked (s.ownDelivery a)).1.link
  rw [hlink, State.ownDelivery, hact, hdelivered]
  refine ⟨rfl, rfl, rfl, rfl, ?_⟩
  show (s.link.degraded && headAttempt a.lane s.link.lanes != 1) = _
  by_cases hfirst : headAttempt a.lane s.link.lanes = 1 <;> simp [hfirst]

/-- The head leaves its lane as the lane gives (R94 to R97). -/
theorem ownDelivery_lanes (hleave : ∀ c, a.frame.payload ≠ .leave c) :
    ∃ repair, ({ dropDelivered a.lane s.link.lanes with repair := repair } : Lanes).agreesApartFromHealth
      (finish (s.ownDelivery a)).link.lanes ∧
      (a.frame.payload.isJoin = false → repair = (dropDelivered a.lane s.link.lanes).repair) := by
  obtain ⟨marks, hdelivered, hmarks⟩ := ownDelivered_link (Config.orders s.draws) a.lane s.drawn
  have hdropped := dropDelivered_agrees a.lane hmarks
  obtain ⟨opened, repair, hact⟩ := ownAct_link_of_stays (o := Config.orders s.draws) hleave
    (ownDelivered (Config.orders s.draws) a.lane s.drawn)
  obtain ⟨marks', hlink, hmarks'⟩ := (finish_looked (s.ownDelivery a)).1.link
  have hlanes : (s.ownDelivery a).link.lanes = { dropDelivered a.lane { s.link.lanes with report := marks } with repair := repair } := by
    rw [State.ownDelivery, hact, hdelivered]
    rfl
  refine ⟨repair, ?_, fun hjoin => ?_⟩
  · rw [hlink]
    exact
      { operator := (congrArg Lanes.operator hlanes).trans hdropped.operator
        repair := (congrArg Lanes.repair hlanes :)
        roll := (congrArg Lanes.roll hlanes).trans hdropped.roll
        leaveOwed := (congrArg Lanes.leaveOwed hlanes).trans hdropped.leaveOwed
        report := by rw [hmarks', hlanes]; exact hdropped.report }
  · obtain ⟨hplain, -⟩ := ownAct_plain (o := Config.orders s.draws) hleave hjoin (ownDelivered (Config.orders s.draws) a.lane s.drawn)
    rw [State.ownDelivery, hplain, hdelivered] at hlanes
    exact (congrArg Lanes.repair hlanes).symm.trans hdropped.repair

/-- With the causes settled and LINK_DEGRADED kept no mark joins (R17). -/
theorem ownDelivery_report_of_settled (hleave : ∀ c, a.frame.payload ≠ .leave c) (hjoin : a.frame.payload.isJoin = false)
    (hcause : s.anyCause = s.engine.healthLevel) (hlaw : overflowLaw s.me s.table) (hme : s.me = some a.frame.source)
    (hdegraded : s.link.degraded = true → headAttempt a.lane s.link.lanes ≠ 1) :
    (finish (s.ownDelivery a)).link.lanes.report = (dropDelivered a.lane s.link.lanes).report := by
  obtain ⟨hlink, htable, hsettled⟩ := ownDelivered_of_settled (o := Config.orders s.draws) (s := s.drawn) hcause hdegraded
  have hme' : (ownDelivered (Config.orders s.draws) a.lane s.drawn).me = s.me := me_of_control (ownDelivered_control ..)
  obtain ⟨hplain, -, hengine⟩ := ownAct_plain (o := Config.orders s.draws) hleave hjoin
    (ownDelivered (Config.orders s.draws) a.lane s.drawn)
  have hany := ownAct_anyCause (o := Config.orders s.draws) hleave hjoin (hme'.trans hme) (by rw [hme', htable]; exact hlaw)
  rw [finish, settle_link, healthSync_of_eq (s.ownDelivery a) (hany.trans (hsettled.trans (congrArg _ hengine).symm)), State.ownDelivery,
    hplain, hlink]
  rfl

/-- The table of the delivery of an own frame, in a state that marks. -/
theorem ownDelivery_table (hmarks : s.marks = true) (hjoin : a.frame.payload.isJoin = false) (hleave : ∀ c, a.frame.payload ≠ .leave c) :
    (finish (s.ownDelivery a)).table = (s.ownDelivery a).table := by
  obtain ⟨hplain, hcontrol, -⟩ := ownAct_plain (o := Config.orders s.draws) hleave hjoin
    (ownDelivered (Config.orders s.draws) a.lane s.drawn)
  refine finish_table_of_marks (Eq.trans ?_ hmarks)
  exact (marks_congr hcontrol (by rw [hplain])).trans (ownDelivered_marks (Config.orders s.draws) a.lane s.drawn)

theorem ownDelivery_report_table {b : PointReport} (hmarks : s.marks = true) (hb : a.frame.payload = .report b) :
    (finish (s.ownDelivery a)).table = (applyContents s.me s.givesSlots a.frame.source b ⟨s.table, []⟩).table := by
  have htable := ownDelivered_table_of_marks (o := Config.orders s.draws) (lane := a.lane) (s := s.drawn) hmarks
  rw [ownDelivery_table s a hmarks (by rw [hb]; rfl) (by rw [hb]; nofun), State.ownDelivery, ownAct, hb]
  dsimp only
  rw [applyReport, takeChange_table, me_of_control (ownDelivered_control ..), htable, State.givesSlots, ownDelivered_control]
  rfl

theorem ownDelivery_dump_table {b : DumpBody} (hmarks : s.marks = true) (hb : a.frame.payload = .dump b) :
    (finish (s.ownDelivery a)).table = (applyDump s.me a.frame.source b.records ⟨s.table, []⟩).table := by
  have htable := ownDelivered_table_of_marks (o := Config.orders s.draws) (lane := a.lane) (s := s.drawn) hmarks
  rw [ownDelivery_table s a hmarks (by rw [hb]; rfl) (by rw [hb]; nofun), State.ownDelivery, ownAct, hb]
  dsimp only
  rw [applyDumpOf, takeChange_table, me_of_control (ownDelivered_control ..), htable]
  rfl

theorem ownDelivery_other_table (hmarks : s.marks = true) (hreport : ∀ b, a.frame.payload ≠ .report b)
    (hdump : ∀ b, a.frame.payload ≠ .dump b) (hjoin : a.frame.payload.isJoin = false) (hleave : ∀ c, a.frame.payload ≠ .leave c) :
    (finish (s.ownDelivery a)).table = s.table := by
  rw [ownDelivery_table s a hmarks hjoin hleave, State.ownDelivery]
  unfold ownAct
  split
  · next b hb => exact absurd hb (hreport b)
  · next b hb => exact absurd hb (hdump b)
  · next b hb =>
    rw [hb] at hjoin
    cases hjoin
  · next c hc => exact absurd hc (hleave c)
  · exact ownDelivered_table_of_marks hmarks

end

/-- The entry and the slot that an own REPORT creates; the table never drops it (R39, R40). -/
theorem applyContents_own_new {n : StationNo} {give : Bool} {b : PointReport} {st : EntryState} {t : AlarmTable}
    (hst : entryState? b.state = some st) (hnone : t.find ⟨n, b.point⟩ = none) :
    (applyContents (some n) give n b ⟨t, []⟩).table =
      { t with
        entries := t.entries ++ [newEntry n b st],
        slots :=
          if give = true ∧ b.foEligible = true ∧ t.slots[b.group] = none then t.slots.set b.group (some ⟨n, b.point⟩) else t.slots } := by
  rw [applyContents_of_new (ch := ⟨t, []⟩) hst hnone]
  obtain ⟨hdropped, -⟩ | ⟨-, heq⟩ := createEntry_cases (some n) give n b st ⟨t, []⟩
  · exact absurd rfl hdropped.1
  · exact heq

/-- What leaves each lane at a delivery (R94 to R97). -/
theorem dropDelivered_lanes (l : Lanes) :
    (∀ m rest, l.report = m :: rest →
      dropDelivered .report l =
        { l with
          report := if m.again then rest ++ [{ point := m.point, again := false, attempt := 0, failed := 0 }] else rest }) ∧
    (∀ e rest, l.operator = e :: rest → dropDelivered .operator l = { l with operator := rest }) ∧
    (∀ e rest, l.repair = e :: rest →
      dropDelivered .repair l =
        { l with
          repair :=
            if e.work = .dump true then rest ++ [{ work := .dump false, attempt := 0, failed := 0 }] else rest }) ∧
    dropDelivered .roll l =
      { l with
        roll := if l.leaveOwed then some { kind := .leave, attempt := 0, failed := 0 } else none, leaveOwed := false } := by
  refine ⟨fun m rest h => ?_, fun e rest h => ?_, fun e rest h => ?_, ?_⟩
  · rw [dropDelivered, h]
    rfl
  · rw [dropDelivered, h]
    rfl
  · have hdrop : dropRepair (e :: rest) = if e.work = .dump true then rest ++ [freshRepair (.dump false)] else rest := by
      simp only [dropRepair]
      split
      · next hw => rw [if_pos hw]
      · next hw => rw [if_neg hw]
    rw [dropDelivered, h, hdrop]
    rfl
  · unfold dropDelivered rollDelivered
    dsimp only
    split
    · rfl
    · next howed => rw [← Bool.eq_false_iff.mpr howed]

/-- Settles O36: the Link Controller's own effects, the sender's own act, and the end of the command. -/
theorem ownDeliveryIsCounted : Obligations.OwnDeliveryIsCounted := by
  refine ⟨fun s a hactive hsend => ⟨finish (s.ownDelivery a), exec_ownDelivery hactive hsend, ?_⟩, dropDelivered_lanes⟩
  obtain ⟨hdelivered, hrun, hsending, hgood, hdegraded⟩ := ownDelivery_counts s a
  obtain ⟨hmonitor, hservice, hpins⟩ := ownDelivery_blocks s a
  have hlooked := (finish_looked (s.ownDelivery a)).1
  refine ⟨hdelivered, hrun, hsending, hgood, hdegraded, fun hleave => ?_, fun hmarks hme => ⟨fun b hb => ⟨?_, fun st hst hnone => ?_⟩,
    fun b hb => ownDelivery_dump_table s a hmarks hb, ownDelivery_other_table s a hmarks⟩,
    hlooked.monitor.trans hmonitor, hlooked.service.trans hservice, hlooked.pins.trans hpins⟩
  · obtain ⟨repair, hlanes, hrepair⟩ := ownDelivery_lanes s a hleave
    exact ⟨hlanes.operator, hlanes.roll, hlanes.leaveOwed, hlanes.report, fun hjoin =>
      ⟨hlanes.repair.trans (hrepair hjoin), ownDelivery_report_of_settled s a hleave hjoin⟩⟩
  · exact ownDelivery_report_table s a hmarks hb
  · have htable := ownDelivery_report_table s a hmarks hb
    rw [hme, applyContents_own_new hst hnone] at htable
    rw [htable]
    have hgives : s.givesSlots = true ↔ s.control.station = .running := by rw [State.givesSlots, beq_iff_eq]
    refine ⟨rfl, fun hrunning hfo hfree => ?_, fun hnot => if_neg fun h => hnot ⟨hgives.mp h.1, h.2⟩⟩
    dsimp only
    rw [if_pos ⟨hgives.mpr hrunning, hfo, hfree⟩, slots_set_get, if_pos rfl]

end Sys2Proof.Machine

/-! PROOFS. The bytes of a frame read back, field by field (R104 to R111). -/

namespace Sys2Proof.Machine

/-! ### Numbers in bytes -/

theorem byteOf_toNat {n : Nat} (h : n < 256) : (byteOf n).toNat = n := by
  rw [byteOf, BitVec.toNat_ofNat]
  exact Nat.mod_eq_of_lt h

theorem byteOf_toNat_self (b : Byte) : byteOf b.toNat = b := BitVec.ofNat_toNat 8 b

theorem eq_byteOf {b : Byte} {n : Nat} (h : b.toNat = n) : b = byteOf n := by rw [← h, byteOf_toNat_self]

theorem word16_high_low (w : BitVec 16) : word16 (highByte w) (lowByte w) = w := by
  apply BitVec.eq_of_getLsbD_eq
  intro i hi
  rw [word16, BitVec.getLsbD_append, highByte, lowByte]
  by_cases hlow : i < 8
  · simp [hlow]
  · simp [hlow, show i - 8 < 8 by omega, show 8 + (i - 8) = i by omega]

theorem highByte_word16 (hi lo : Byte) : highByte (word16 hi lo) = hi := by
  apply BitVec.eq_of_getLsbD_eq
  intro i hi'
  rw [highByte, word16, BitVec.getLsbD_setWidth, BitVec.getLsbD_ushiftRight, BitVec.getLsbD_append]
  simp [hi']

theorem lowByte_word16 (hi lo : Byte) : lowByte (word16 hi lo) = lo := by
  apply BitVec.eq_of_getLsbD_eq
  intro i hi'
  rw [lowByte, word16, BitVec.getLsbD_setWidth, BitVec.getLsbD_append]
  simp [hi']

/-! ### The codes of R104 -/

theorem seqOfCode?_eq_some {b : Byte} {st : SeqState} : seqOfCode? b = some st ↔ b = seqCode st := by
  constructor
  · intro h
    unfold seqOfCode? at h
    split at h
    case h_6 => cases h
    all_goals next hb => cases h; exact eq_byteOf hb
  · rintro rfl
    cases st <;> rfl

theorem actionOfCode?_eq_some {b : Byte} {a : Action} : actionOfCode? b = some a ↔ b = actionCode a := by
  constructor
  · intro h
    unfold actionOfCode? at h
    split at h
    case h_3 => cases h
    all_goals next hb => cases h; exact eq_byteOf hb
  · rintro rfl
    cases a <;> rfl

theorem joinCauseOfCode?_eq_some {b : Byte} {c : JoinCause} : joinCauseOfCode? b = some c ↔ b = joinCauseCode c := by
  constructor
  · intro h
    unfold joinCauseOfCode? at h
    split at h
    case h_6 => cases h
    all_goals next hb => cases h; exact eq_byteOf hb
  · rintro rfl
    cases c <;> rfl

theorem leaveCauseOfCode?_eq_some {b : Byte} {c : LeaveCause} : leaveCauseOfCode? b = some c ↔ b = leaveCauseCode c := by
  constructor
  · intro h
    unfold leaveCauseOfCode? at h
    split at h
    case h_2 => cases h
    all_goals next hb => cases h; exact eq_byteOf hb
  · rintro rfl
    cases c
    rfl

theorem intervalOfCode?_eq_some {b : Byte} {i : Interval} : intervalOfCode? b = some i ↔ b = intervalCode i := by
  constructor
  · intro h
    unfold intervalOfCode? at h
    split at h
    case h_5 => cases h
    all_goals next hb => cases h; exact eq_byteOf hb
  · rintro rfl
    cases i <;> rfl

theorem entryState?_eq_some {st : SeqState} {e : EntryState} : entryState? st = some e ↔ st = seqOf e := by
  cases st <;> cases e <;> simp [entryState?, seqOf]

theorem pointOf?_iff {b : Byte} {p : PointNo} : pointOf? b = some p ↔ b = byteOf p.val := by
  constructor
  · intro h
    unfold pointOf? at h
    split at h
    · cases h
      exact eq_byteOf rfl
    · cases h
  · rintro rfl
    exact pointOf?_eq_some (byteOf_toNat (by omega))

theorem stationOf_eq_some {b : Byte} {s : StationNo} : StationNo.ofNat? b.toNat = some s ↔ b = byteOf s.number := by
  have hrange := s.inRange
  rw [ofNat?_eq_some b.toNat s]
  exact ⟨eq_byteOf, fun h => by rw [h, byteOf_toNat (by omega)]⟩

/-! ### The options byte -/

theorem optionsByte_bits (g : GroupNo) (foEligible audible fo : Bool) :
    (optionsByte g foEligible audible fo).toNat < 64 ∧ groupBits (optionsByte g foEligible audible fo) = g ∧
      (optionsByte g foEligible audible fo).getLsbD 3 = foEligible ∧ (optionsByte g foEligible audible fo).getLsbD 4 = audible ∧
      (optionsByte g foEligible audible fo).getLsbD 5 = fo := by
  revert g foEligible audible fo
  decide

theorem optionsByte_small (g : GroupNo) (foEligible audible : Bool) : (optionsByte g foEligible audible false).toNat < 32 := by
  revert g foEligible audible
  decide

/-- A byte below 64 is the options byte of its bits. -/
theorem optionsByte_of_bits {b : Byte} (h : b.toNat < 64) :
    optionsByte (groupBits b) (b.getLsbD 3) (b.getLsbD 4) (b.getLsbD 5) = b := by
  have hall : ∀ n : Fin 64, optionsByte (groupBits (byteOf n)) ((byteOf n).getLsbD 3) ((byteOf n).getLsbD 4) ((byteOf n).getLsbD 5) =
      byteOf n := by decide
  rw [← byteOf_toNat_self b]
  exact hall ⟨b.toNat, h⟩

theorem getLsbD_five_of_small {b : Byte} (h : b.toNat < 32) : b.getLsbD 5 = false := by
  rw [BitVec.getLsbD, Nat.testBit_lt_two_pow h]

/-! ### Lists of fields -/

theorem itemsOf?_eq_some {bytes : List Byte} {items : List Item} : itemsOf? bytes = some items ↔ bytes = items.flatMap itemBytes := by
  constructor
  · intro h
    fun_induction itemsOf? bytes generalizing items with
    | case1 => cases h; rfl
    | case2 p rev rest point others hrest hp ih =>
      cases h
      rw [List.flatMap_cons, ← ih hrest, pointOf?_iff.mp hp]
      rfl
    | case3 => cases h
    | case4 => cases h
  · rintro rfl
    induction items with
    | nil => rfl
    | cons i rest ih =>
      rw [List.flatMap_cons, itemBytes, List.cons_append, List.cons_append, List.nil_append, itemsOf?, ih, pointOf?_iff.mpr rfl]

theorem ownersOf?_eq_some {bytes : List Byte} {owners : List StationNo} :
    ownersOf? bytes = some owners ↔ bytes = owners.map (fun o => byteOf o.number) := by
  constructor
  · intro h
    fun_induction ownersOf? bytes generalizing owners with
    | case1 => cases h; rfl
    | case2 b rest o others hrest ho ih =>
      cases h
      rw [List.map_cons, ← ih hrest, stationOf_eq_some.mp ho]
    | case3 => cases h
  · rintro rfl
    induction owners with
    | nil => rfl
    | cons o rest ih => rw [List.map_cons, ownersOf?, ih, stationOf_eq_some.mpr rfl]

theorem recordOf?_eq_some {p st rev opt : Byte} {r : DumpRecord} : recordOf? p st rev opt = some r ↔ [p, st, rev, opt] = recordBytes r := by
  constructor
  · intro h
    unfold recordOf? at h
    split at h
    · next point state hp hst =>
      split at h
      · next hopt =>
        cases h
        obtain ⟨seq, hseq, hstate⟩ := Option.bind_eq_some_iff.mp hst
        rw [recordBytes, ← pointOf?_iff.mp hp, optionsByte_of_bits hopt, ← entryState?_eq_some.mp hstate,
          ← seqOfCode?_eq_some.mp hseq]
      · cases h
    · cases h
  · intro h
    rw [recordBytes] at h
    injection h with hp h
    injection h with hst h
    injection h with hrev h
    injection h with hopt _
    subst hp hst hrev hopt
    obtain ⟨hsmall, hgroup, hfoEligible, haudible, hfo⟩ := optionsByte_bits r.group r.foEligible r.audible r.fo
    rw [recordOf?, pointOf?_iff.mpr rfl, seqOfCode?_eq_some.mpr rfl, Option.bind_some, entryState?_eq_some.mpr rfl]
    dsimp only
    rw [if_pos hsmall, hgroup, hfoEligible, haudible, hfo]

theorem recordsOf?_eq_some {bytes : List Byte} {records : List DumpRecord} :
    recordsOf? bytes = some records ↔ bytes = records.flatMap recordBytes := by
  constructor
  · intro h
    fun_induction recordsOf? bytes generalizing records with
    | case1 => cases h; rfl
    | case2 p st rev opt rest r others hrest hr ih =>
      cases h
      rw [List.flatMap_cons, ← ih hrest, ← recordOf?_eq_some.mp hr]
      rfl
    | case3 => cases h
    | case4 => cases h
  · rintro rfl
    induction records with
    | nil => rfl
    | cons r rest ih =>
      rw [List.flatMap_cons, recordBytes, List.cons_append, List.cons_append, List.cons_append, List.cons_append, List.nil_append,
        recordsOf?, ih, recordOf?_eq_some.mpr rfl]

end Sys2Proof.Machine

/-! PROOFS. A receiver finds a frame exactly in the bytes of a good frame (R82, R102 to R112). -/

namespace Sys2Proof.Machine

/-! ### The contents -/

/-- The bytes that a kind's contents are found in are those contents' own, and the kind is theirs. -/
theorem of_payloadOf? {kind : Nat} {bytes : List Byte} {p : Payload} (h : payloadOf? kind bytes = some p) :
    kind = (kindCode p).toNat ∧ bytes = payloadBytes p := by
  unfold payloadOf? at h
  split at h
  · split at h
    · next p st rev opt point state hp hst =>
      split at h
      · next hopt =>
        cases h
        refine ⟨rfl, ?_⟩
        rw [payloadBytes, ← pointOf?_iff.mp hp, ← seqOfCode?_eq_some.mp hst, ← getLsbD_five_of_small hopt,
          optionsByte_of_bits (by omega)]
      · cases h
    · cases h
  · split at h
    · next target action n rest t a items ht ha hitems =>
      split at h
      · next hlen =>
        cases h
        refine ⟨rfl, ?_⟩
        rw [payloadBytes, ← stationOf_eq_some.mp ht, ← actionOfCode?_eq_some.mp ha, ← itemsOf?_eq_some.mp hitems, ← eq_byteOf hlen.symm]
        rfl
      · cases h
    · cases h
  · split at h
    · next n rest owners howners =>
      split at h
      · next hlen =>
        cases h
        refine ⟨rfl, ?_⟩
        rw [payloadBytes, ← ownersOf?_eq_some.mp howners, ← eq_byteOf hlen.symm]
      · cases h
    · cases h
  · split at h
    · next count n rest records hrecords =>
      split at h
      · next hlen =>
        cases h
        refine ⟨rfl, ?_⟩
        rw [payloadBytes, ← recordsOf?_eq_some.mp hrecords, ← eq_byteOf hlen.symm]
        rfl
      · cases h
    · cases h
  · split at h
    · next count cause interval c i hc hi =>
      cases h
      refine ⟨rfl, ?_⟩
      rw [payloadBytes, ← joinCauseOfCode?_eq_some.mp hc, ← intervalOfCode?_eq_some.mp hi]
    · cases h
  · split at h
    · next count interval digestCount sumHi sumLo phaseHi phaseLo i hi =>
      split at h
      · cases h
        refine ⟨rfl, ?_⟩
        rw [payloadBytes, ← intervalOfCode?_eq_some.mp hi, BitVec.ofNat_toNat, BitVec.setWidth_eq, highByte_word16, lowByte_word16,
          highByte_word16, lowByte_word16, byteOf_toNat_self]
      · cases h
    · cases h
  · split at h
    · next cause c hc =>
      cases h
      refine ⟨rfl, ?_⟩
      rw [payloadBytes, ← leaveCauseOfCode?_eq_some.mp hc]
    · cases h
  · cases h

/-- The counts that a frame's contents carry in one byte each. -/
def countsFit : Payload → Bool
  | .operator b => decide (b.items.length < 256)
  | .resyncRequest owners => decide (owners.length < 256)
  | .dump b => decide (b.records.length < 256)
  | _ => true

theorem payloadOf?_payloadBytes {p : Payload} (h : countsFit p = true) : payloadOf? (kindCode p).toNat (payloadBytes p) = some p := by
  cases p with
  | report r =>
    obtain ⟨-, hgroup, hfoEligible, haudible, -⟩ := optionsByte_bits r.group r.foEligible r.audible false
    show payloadOf? 1 _ = _
    rw [payloadBytes, payloadOf?, pointOf?_iff.mpr rfl, seqOfCode?_eq_some.mpr rfl]
    dsimp only
    rw [if_pos (optionsByte_small ..), hgroup, hfoEligible, haudible]
  | operator b =>
    have hlen : b.items.length < 256 := of_decide_eq_true h
    show payloadOf? 2 (byteOf b.target.number :: actionCode b.action :: byteOf b.items.length :: b.items.flatMap itemBytes) = _
    rw [payloadOf?, stationOf_eq_some.mpr rfl, actionOfCode?_eq_some.mpr rfl, itemsOf?_eq_some.mpr rfl]
    dsimp only
    rw [if_pos (byteOf_toNat hlen).symm]
  | resyncRequest owners =>
    have hlen : owners.length < 256 := of_decide_eq_true h
    show payloadOf? 3 _ = _
    rw [payloadBytes, payloadOf?, ownersOf?_eq_some.mpr rfl]
    dsimp only
    rw [if_pos (byteOf_toNat hlen).symm]
  | dump b =>
    have hlen : b.records.length < 256 := of_decide_eq_true h
    show payloadOf? 4 (b.restartCount :: byteOf b.records.length :: b.records.flatMap recordBytes) = _
    rw [payloadOf?, recordsOf?_eq_some.mpr rfl]
    dsimp only
    rw [if_pos (byteOf_toNat hlen).symm]
  | join b =>
    show payloadOf? 5 _ = _
    rw [payloadBytes, payloadOf?, joinCauseOfCode?_eq_some.mpr rfl, intervalOfCode?_eq_some.mpr rfl]
  | presence b =>
    have hcount : (byteOf b.digestCount.val).toNat = b.digestCount.val := byteOf_toNat (by omega)
    have hphase : (BitVec.ofNat 16 b.phase.val).toNat = b.phase.val := by
      rw [BitVec.toNat_ofNat]
      exact Nat.mod_eq_of_lt (by omega)
    show payloadOf? 6 _ = _
    rw [payloadBytes, payloadOf?, intervalOfCode?_eq_some.mpr rfl]
    dsimp only
    rw [dif_pos ⟨by rw [hcount]; exact b.digestCount.isLt, by rw [word16_high_low, hphase]; exact b.phase.isLt⟩]
    simp only [hcount, word16_high_low, hphase]
  | leave c =>
    show payloadOf? 7 _ = _
    rw [payloadBytes, payloadOf?, leaveCauseOfCode?_eq_some.mpr rfl]

/-! ### The lengths -/

theorem length_flatMap_const {α β : Type} {f : α → List β} {k : Nat} (h : ∀ a, (f a).length = k) (l : List α) :
    (l.flatMap f).length = k * l.length := by
  simp [List.length_flatMap, h, Nat.mul_comm]

theorem wellFormed_fits {f : Frame} (h : f.wellFormed = true) : countsFit f.payload = true ∧ (payloadBytes f.payload).length < 256 := by
  obtain ⟨src, p⟩ := f
  cases p with
  | operator b =>
    have hlen : b.items.length ≤ 17 := by
      have hb : OperatorBody.wellFormed src b = true := h
      simp only [OperatorBody.wellFormed, Bool.and_eq_true, decide_eq_true_eq] at hb
      exact hb.2
    refine ⟨decide_eq_true (by omega), ?_⟩
    simp only [payloadBytes, List.length_append, length_flatMap_const (f := itemBytes) (k := 2) (fun _ => rfl), List.length_cons,
      List.length_nil]
    omega
  | resyncRequest owners =>
    have hlen : owners.length ≤ 47 := by
      have hb : ownersWellFormed src owners = true := h
      simp only [ownersWellFormed, Bool.and_eq_true, decide_eq_true_eq] at hb
      obtain ⟨⟨⟨-, hlen⟩, -⟩, -⟩ := hb
      exact hlen
    refine ⟨decide_eq_true (by omega), ?_⟩
    simp only [payloadBytes, List.length_cons, List.length_map]
    omega
  | dump b =>
    have hlen : b.records.length ≤ 17 := by
      have hb : DumpBody.wellFormed b = true := h
      simp only [DumpBody.wellFormed, Bool.and_eq_true, decide_eq_true_eq] at hb
      exact hb.1
    refine ⟨decide_eq_true (by omega), ?_⟩
    simp only [payloadBytes, List.length_append, length_flatMap_const (f := recordBytes) (k := 4) (fun _ => rfl), List.length_cons,
      List.length_nil]
    omega
  | report r => exact ⟨rfl, by simp [payloadBytes]⟩
  | join b => exact ⟨rfl, by simp [payloadBytes]⟩
  | presence b => exact ⟨rfl, by simp [payloadBytes]⟩
  | leave c => exact ⟨rfl, by simp [payloadBytes]⟩

/-! ### The key byte -/

theorem frameClass_le (p : Payload) : frameClass p ≤ 3 := by
  unfold frameClass
  split <;> omega

theorem keyByte_toNat (f : Frame) : (keyByte f).toNat = frameClass f.payload * 64 + f.source.number := by
  have hclass := frameClass_le f.payload
  have hrange := f.source.inRange
  exact byteOf_toNat (by omega)

theorem eq_keyByte {key : Byte} {f : Frame} (hclass : key.toNat / 64 = frameClass f.payload) (hsource : key.toNat % 64 = f.source.number) :
    key = keyByte f := by
  refine eq_byteOf ?_
  rw [← hclass, ← hsource]
  omega

/-! ### The frame -/

/-- The two bytes of the check value (R103). -/
def checkBytes (checked : List Byte) : List Byte := [highByte (crc16 checked), lowByte (crc16 checked)]

theorem frameOf?_frameBytes {f : Frame} (h : f.wellFormed = true) : frameOf? (frameBytes f) = some f := by
  obtain ⟨hcounts, hlength⟩ := wellFormed_fits h
  have hclass := frameClass_le f.payload
  have hrange := f.source.inRange
  have hlen : (byteOf (payloadBytes f.payload).length).toNat = (payloadBytes f.payload).length := byteOf_toNat hlength
  have hbytes : frameBytes f =
      keyByte f :: kindCode f.payload :: byteOf (payloadBytes f.payload).length :: (payloadBytes f.payload ++ checkBytes (checkedBytes f)) := by
    simp [frameBytes, checkedBytes, checkBytes]
  rw [hbytes, frameOf?, hlen, List.take_left, List.drop_left]
  have hsource : StationNo.ofNat? ((keyByte f).toNat % 64) = some f.source := by
    rw [ofNat?_eq_some, keyByte_toNat]
    omega
  rw [if_pos ⟨by rw [List.length_append]; rfl, rfl⟩, hsource, payloadOf?_payloadBytes hcounts]
  dsimp only
  rw [if_pos ⟨by rw [keyByte_toNat]; omega, h⟩]

theorem of_frameOf? {bytes : List Byte} {f : Frame} (h : frameOf? bytes = some f) : bytes = frameBytes f ∧ f.wellFormed = true := by
  unfold frameOf? at h
  split at h
  · next key kind len rest =>
    split at h
    · next hgood =>
      obtain ⟨hlength, hcheck⟩ := hgood
      split at h
      · next source payload hsource hpayload =>
        split at h
        · next hkey =>
          obtain ⟨hclass, hwell⟩ := hkey
          cases h
          refine ⟨?_, hwell⟩
          obtain ⟨hkind, htake⟩ := of_payloadOf? hpayload
          have hkind' : kind = kindCode payload := BitVec.eq_of_toNat_eq hkind
          have hkey' : key = keyByte ⟨source, payload⟩ := eq_keyByte hclass ((ofNat?_eq_some _ _).mp hsource)
          have hlen : len = byteOf (payloadBytes payload).length := by
            refine eq_byteOf ?_
            rw [← htake, List.length_take]
            omega
          have hchecked : key :: kind :: len :: rest.take len.toNat = checkedBytes ⟨source, payload⟩ := by
            rw [htake, hkey', hkind', hlen]
            rfl
          rw [hchecked] at hcheck
          calc key :: kind :: len :: rest
            _ = (key :: kind :: len :: rest.take len.toNat) ++ rest.drop len.toNat := by
              rw [List.cons_append, List.cons_append, List.cons_append, List.take_append_drop]
            _ = frameBytes ⟨source, payload⟩ := by rw [hchecked, hcheck]; rfl
        · cases h
      · cases h
    · cases h
  · cases h

/-! ### The medium -/

theorem map_value_onMedium (f : Frame) : (onMedium f).map (·.value) = frameBytes f := by
  rw [onMedium, List.map_map]
  exact List.map_id _

theorem all_stopOk_onMedium (f : Frame) : (onMedium f).all (·.stopOk) = true := by
  simp [onMedium]

/-- Bytes whose stop bits are good are their values on an undisturbed medium. -/
theorem eq_map_of_stopOk {received : List ReceivedByte} (h : received.all (·.stopOk) = true) :
    received = (received.map (·.value)).map (fun b => ⟨b, true⟩) := by
  rw [List.map_map]
  refine (List.map_id received).symm.trans (List.map_congr_left fun r hr => ?_)
  have hstop : r.stopOk = true := List.all_eq_true.mp h r hr
  cases r
  cases hstop
  rfl

/-- Settles O59: the fields read back one by one, and the verdict is taken on nothing else. -/
theorem goodFrameReadsBack : Obligations.GoodFrameReadsBack := by
  refine ⟨fun f h => ?_, fun received f h => ?_⟩
  · rw [judge, if_pos (all_stopOk_onMedium f), map_value_onMedium, frameOf?_frameBytes h]
  · unfold judge at h
    split at h
    · next hstop =>
      obtain ⟨hbytes, hwell⟩ := of_frameOf? h
      exact ⟨(eq_map_of_stopOk hstop).trans (congrArg _ hbytes), hwell⟩
    · cases h

end Sys2Proof.Machine

/-! PROOFS. The bytes of the Service Port's answers (R115, R116, R185). -/

namespace Sys2Proof.Machine

/-! ### Sums and lengths -/

theorem byteSum_checked (bytes : List Byte) : byteSum (bytes ++ [0#8 - byteSum bytes]) = 0#8 := by
  rw [byteSum_append]
  bv_omega

theorem highByte_ofNat (n : Nat) : highByte (BitVec.ofNat 16 n) = BitVec.ofNat 8 (n / 256) := by
  apply BitVec.eq_of_toNat_eq
  simp only [highByte, BitVec.toNat_setWidth, BitVec.toNat_ushiftRight, BitVec.toNat_ofNat, Nat.shiftRight_eq_div_pow]
  omega

theorem lowByte_ofNat (n : Nat) : lowByte (BitVec.ofNat 16 n) = BitVec.ofNat 8 n := by
  apply BitVec.eq_of_toNat_eq
  simp only [lowByte, BitVec.toNat_setWidth, BitVec.toNat_ofNat]
  omega

theorem lengthBytes_eq (n : Nat) : lengthBytes n = [BitVec.ofNat 8 (n / 256), BitVec.ofNat 8 n] := by
  rw [lengthBytes, highByte_ofNat, lowByte_ofNat]

theorem counterBytes_eq (c : Counter) : counterBytes c = [BitVec.ofNat 8 (c.toNat / 256), BitVec.ofNat 8 c.toNat] := by
  rw [counterBytes, ← highByte_ofNat, ← lowByte_ofNat, BitVec.ofNat_toNat, BitVec.setWidth_eq]

/-- A response, byte by byte (R115). -/
theorem responseBytes_framed (kind : Byte) (r : Result) (payload : List Byte) :
    (∃ check,
      responseBytes kind r payload =
        [kind, resultCode r, BitVec.ofNat 8 (payload.length / 256), BitVec.ofNat 8 payload.length] ++ payload ++ [check]) ∧
    byteSum (responseBytes kind r payload) = 0#8 := by
  refine ⟨⟨0#8 - byteSum ([kind, resultCode r] ++ lengthBytes payload.length ++ payload), ?_⟩, byteSum_checked _⟩
  rw [← highByte_ofNat, ← lowByte_ofNat]
  rfl

/-! ### Records of one length in a row -/

section
variable {α : Type} {f : α → List Byte} {k : Nat} (hf : ∀ a, (f a).length = k)
include hf

theorem take_drop_flatMap {l : List α} {i : Nat} {a : α} (h : l[i]? = some a) (rest : List Byte) :
    ((l.flatMap f ++ rest).drop (k * i)).take k = f a := by
  induction l generalizing i with
  | nil => cases h
  | cons x xs ih =>
    rw [List.flatMap_cons, List.append_assoc]
    cases i with
    | zero =>
      cases h
      exact List.take_left' (hf _)
    | succ i =>
      rw [Nat.mul_succ, Nat.add_comm, ← List.drop_drop, List.drop_left' (hf x)]
      exact ih h

theorem drop_flatMap (l : List α) (rest : List Byte) : (l.flatMap f ++ rest).drop (k * l.length) = rest :=
  List.drop_left' (length_flatMap_const hf l)

end

theorem optionBytes_length (x : Option Byte) : (optionBytes x).length = 2 := by
  cases x <;> rfl

theorem slotBytes_length (h : Option Condition) : (slotBytes h).length = 2 := by
  cases h <;> rfl

theorem rosterBytes_length (e : RosterEntry) : (rosterBytes e).length = 7 := by
  simp [rosterBytes, optionBytes_length]

/-! ### STATUS -/

theorem statusPayload_eq (s : State) :
    s.statusPayload =
      [stationCode s.control.station, BitVec.ofNat 8 s.control.number.toNat, unconfiguredCode s.control.reason,
        resetCauseCode s.control.resetCause, s.control.restartCount] ++
      [s.lampFault, s.table.tableOverflow, s.link.degraded, s.repairFailed, s.table.overflow].map yesByte ++
      [s.link.delivered, s.link.objected, s.link.collided, s.link.arbLost, s.link.undelivered, s.link.receivedGood,
        s.link.receivedBad, s.engine.itemsRefused, s.table.dropped, s.ann.operatorDropped, s.service.errors].flatMap counterBytes := by
  simp [State.statusPayload, BitVec.ofNat_toNat]

theorem statusPayload_length (s : State) : s.statusPayload.length = 32 := by
  rw [statusPayload_eq, List.length_append, length_flatMap_const (f := counterBytes) (k := 2) (fun _ => rfl)]
  rfl

/-! ### READ_TABLE -/

section
variable (s : State)

theorem tablePayload_drop (n : Nat) :
    s.tablePayload.drop (1 + n) = (s.table.entries.flatMap entryBytes ++ s.table.slots.toList.flatMap slotBytes).drop n := by
  rw [Nat.add_comm]
  rfl

theorem tablePayload_length : s.tablePayload.length = 17 + 8 * s.table.entries.length := by
  rw [State.tablePayload, List.length_append, List.length_cons, length_flatMap_const (f := entryBytes) (k := 8) (fun _ => rfl),
    length_flatMap_const slotBytes_length, Vector.length_toList]
  omega

theorem tablePayload_entry {i : Nat} {e : Entry} (h : s.table.entries[i]? = some e) :
    (s.tablePayload.drop (1 + 8 * i)).take 8 = entryBytes e := by
  rw [tablePayload_drop]
  exact take_drop_flatMap (f := entryBytes) (fun _ => rfl) h _

theorem tablePayload_slot (g : GroupNo) :
    (s.tablePayload.drop (1 + 8 * s.table.entries.length + 2 * g.val)).take 2 = slotBytes s.table.slots[g] := by
  have hslot : s.table.slots.toList[g.val]? = some s.table.slots[g] := by
    rw [Vector.getElem?_toList]
    exact Vector.getElem?_eq_getElem g.isLt
  rw [Nat.add_assoc, tablePayload_drop, ← List.drop_drop, drop_flatMap (f := entryBytes) (fun _ => rfl)]
  have htake := take_drop_flatMap slotBytes_length hslot []
  rwa [List.append_nil] at htake

/-! ### READ_ROSTER -/

theorem rosterPayload_length : s.rosterPayload.length = 336 := by
  rw [State.rosterPayload, length_flatMap_const rosterBytes_length, Vector.length_toList]

theorem rosterPayload_entry (n : StationNo) : (s.rosterPayload.drop (7 * (n.number - 1))).take 7 = rosterBytes (s.member n) := by
  have hentry : s.roster.entries.toList[n.number - 1]? = some (s.member n) := by
    rw [Vector.getElem?_toList]
    exact Vector.getElem?_eq_getElem n.index.isLt
  have htake := take_drop_flatMap rosterBytes_length hentry []
  rwa [List.append_nil] at htake

/-! ### READ_POINTS -/

theorem pointsPayload_length : s.pointsPayload.length = 135 := by
  rw [State.pointsPayload, List.length_append, length_flatMap_const (f := s.pointBytes) (k := 7) (fun _ => rfl), List.length_map,
    Vector.length_toList, List.length_finRange]

theorem pointsPayload_point (p : PointNo) : (s.pointsPayload.drop (7 * p.val)).take 7 = s.pointBytes p := by
  refine take_drop_flatMap (f := s.pointBytes) (fun _ => rfl) ?_ _
  rw [List.getElem?_eq_getElem (by rw [List.length_finRange]; exact p.isLt), List.getElem_finRange]
  rfl

theorem pointsPayload_input (i : LineNo) : s.pointsPayload[119 + i.val]? = some (yesByte (s.input i).qualified) := by
  have hlength : ((List.finRange 17).flatMap s.pointBytes).length = 119 := by
    rw [length_flatMap_const (f := s.pointBytes) (k := 7) (fun _ => rfl), List.length_finRange]
  rw [State.pointsPayload, List.getElem?_append_right (by omega), hlength, Nat.add_sub_cancel_left, List.getElem?_map,
    Vector.getElem?_toList, Vector.getElem?_eq_getElem i.isLt]
  rfl

end

end Sys2Proof.Machine

/-! PROOFS. The answers to the read requests (R115, R116, R184, R185). -/

namespace Sys2Proof.Machine

/-! ### The tests of R184 -/

/-- A whole request that reaches an idle live port and is answered. -/
theorem receiveAll_answered {kind : Byte} {body : RequestBody} {s : State} {r : Result} {payload : List Byte} (h : s.portLive = true)
    (hr : s.service.response = none) (hx : s.service.rx = none) (hw : body.wellFormed = true)
    (hjudged : judgeRequest (emptied s) (wholeRequest kind body) = .answer r payload) :
    receiveAll kind body s =
      s.withService { s.service with rx := none, gap := .stopped, response := some (responseBytes kind r payload) } := by
  rw [receiveAll_idle kind body s h hr hx hw, takeRequest, hjudged]
  rfl

section
variable {kind : Byte} {body : RequestBody} {s : State}

theorem judgeRequest_badCheck (h : byteSum (requestBytes kind body) ≠ 0#8) :
    judgeRequest s (wholeRequest kind body) = .answer .badCheck [] := if_pos h

theorem judgeRequest_unknown (h : byteSum (requestBytes kind body) = 0#8) (hkind : kind = 0#8 ∨ 6 < kind.toNat) :
    judgeRequest s (wholeRequest kind body) = .answer .unknownRequest [] :=
  (if_neg (not_not.mpr h)).trans (if_pos hkind)

theorem judgeRequest_busy (h : byteSum (requestBytes kind body) = 0#8) (hkind : ¬(kind = 0#8 ∨ 6 < kind.toNat))
    (hstoring : s.control.station = .storing ∧ kind ≠ 1#8) : judgeRequest s (wholeRequest kind body) = .answer .busy [] :=
  (if_neg (not_not.mpr h)).trans ((if_neg hkind).trans (if_pos hstoring))

/-- A request with a good check that is known and finds the port free. -/
theorem judgeRequest_of_free (h : byteSum (requestBytes kind body) = 0#8) (hkind : ¬(kind = 0#8 ∨ 6 < kind.toNat))
    (hfree : ¬(s.control.station = .storing ∧ kind ≠ 1#8)) :
    judgeRequest s (wholeRequest kind body) =
      if kind = setupKind then judgeSetup s body.payload.length (body.payload.take 96)
      else if body.payload.length ≠ 0 then invalidAnswer .badFormat 0#8
      else .answer .ok (s.readPayload kind) :=
  (if_neg (not_not.mpr h)).trans ((if_neg hkind).trans (if_neg hfree))

/-- What a read request comes to, by the tests in order. -/
theorem receiveAll_read (h : s.portLive = true) (hr : s.service.response = none) (hx : s.service.rx = none)
    (hw : body.wellFormed = true) (hkind : ¬(kind = 0#8 ∨ 6 < kind.toNat)) (hread : kind ≠ setupKind) :
    receiveAll kind body s =
      s.withService
        { s.service with
          rx := none, gap := .stopped,
          response := some
            (if byteSum (requestBytes kind body) ≠ 0#8 then responseBytes kind .badCheck []
             else if s.control.station = .storing ∧ kind ≠ 1#8 then responseBytes kind .busy []
             else if body.payload = [] then responseBytes kind .ok (s.readPayload kind)
             else responseBytes kind .invalid [1#8, 0#8]) } := by
  by_cases hsum : byteSum (requestBytes kind body) = 0#8
  · rw [if_neg (not_not.mpr hsum)]
    by_cases hstoring : s.control.station = .storing ∧ kind ≠ 1#8
    · rw [if_pos hstoring]
      exact receiveAll_answered h hr hx hw (judgeRequest_busy hsum hkind hstoring)
    · have hjudged := judgeRequest_of_free (s := emptied s) hsum hkind hstoring
      rw [if_neg hread] at hjudged
      rw [if_neg hstoring]
      by_cases hempty : body.payload = []
      · rw [if_pos hempty]
        rw [if_neg (by simp [hempty])] at hjudged
        exact receiveAll_answered h hr hx hw hjudged
      · rw [if_neg hempty]
        rw [if_pos (by simp [hempty])] at hjudged
        exact receiveAll_answered h hr hx hw hjudged
  · rw [if_pos hsum]
    exact receiveAll_answered h hr hx hw (judgeRequest_badCheck hsum)

end

/-! ### The payloads, field by field -/

/-- Settles O50: the framing, the codes, the four payloads, and the tests in order. -/
theorem requestsAreAnswered : Obligations.RequestsAreAnswered := by
  refine ⟨responseBytes_framed, rfl, rfl, rfl, rfl, rfl, rfl, rfl, rfl, rfl, rfl, fun s => ⟨⟨statusPayload_length s, ?_⟩,
    ⟨tablePayload_length s, rfl, fun i e h => tablePayload_entry s h, fun g => ?_⟩, ⟨rosterPayload_length s, fun n => ?_⟩,
    pointsPayload_length s, pointsPayload_point s, pointsPayload_input s⟩, fun s body h hr hx hw => ⟨fun c kind payload hc => ?_,
    fun kind => ⟨fun hsum hkind => ?_, fun hsum => ?_⟩⟩⟩
  · rw [statusPayload_eq, funext counterBytes_eq]
    rfl
  · rw [tablePayload_slot]
    cases s.table.slots[g] <;> rfl
  · rw [rosterPayload_entry, rosterBytes]
    cases (s.member n).restartCount <;> cases (s.member n).joinCause <;> rfl
  · simp only [List.mem_cons, List.not_mem_nil, or_false, Prod.mk.injEq] at hc
    obtain ⟨rfl, rfl, rfl⟩ | ⟨rfl, rfl, rfl⟩ | ⟨rfl, rfl, rfl⟩ | ⟨rfl, rfl, rfl⟩ | ⟨rfl, rfl, rfl⟩ := hc
    all_goals exact congrArg Host.Outcome.next (receiveAll_read h hr hx hw (by decide) (by decide))
  · exact congrArg Host.Outcome.next (receiveAll_answered h hr hx hw (judgeRequest_unknown hsum hkind))
  · exact congrArg Host.Outcome.next (receiveAll_answered h hr hx hw (judgeRequest_badCheck hsum))

end Sys2Proof.Machine

/-! PROOFS. A SETUP and the tests of an image (R171 to R173, R184). -/

namespace Sys2Proof.Machine

/-! ### A SETUP at an idle port -/

/-- What any whole request leaves: the receiver idle, and all but the answer and Station Control as they were. -/
theorem takeRequest_frame (q : Request) (s : State) :
    (takeRequest q s).service.rx = s.service.rx ∧ (takeRequest q s).service.gap = s.service.gap ∧
      (takeRequest q s).service.errors = s.service.errors ∧ (takeRequest q s).engine = s.engine ∧ (takeRequest q s).table = s.table ∧
      (takeRequest q s).link = s.link ∧ (takeRequest q s).roster = s.roster ∧ (takeRequest q s).pins = s.pins := by
  unfold takeRequest
  split <;> exact ⟨rfl, rfl, rfl, rfl, rfl, rfl, rfl, rfl⟩

section
variable {body : RequestBody} {s : State}

theorem judgeRequest_setup (h : byteSum (requestBytes 6#8 body) = 0#8) (hfree : s.control.station ≠ .storing) :
    judgeRequest s (wholeRequest 6#8 body) = judgeSetup s body.payload.length (body.payload.take 96) := by
  rw [judgeRequest_of_free h (by decide) fun hstoring => hfree hstoring.1]
  exact if_pos rfl

theorem judgeSetup_alreadySet {n : Nat} {kept : List Byte} (h : s.control.setupAccepted = true) :
    judgeSetup s n kept = .answer .alreadySet [] := if_pos h

theorem judgeSetup_locked {n : Nat} {kept : List Byte} (h : s.control.setupAccepted = false) (hst : s.control.station ≠ .setupWait) :
    judgeSetup s n kept = .answer .locked [] := by
  rw [judgeSetup, if_neg (by simp [h]), if_pos hst]

theorem judgeSetup_badLength {n : Nat} {kept : List Byte} (h : s.control.setupAccepted = false) (hst : s.control.station = .setupWait)
    (hn : n ≠ 96) : judgeSetup s n kept = .answer .invalid [1#8, 0#8] := by
  rw [judgeSetup, if_neg (by simp [h]), if_neg (not_not.mpr hst), if_pos hn]
  rfl

theorem imageOf?_toList (img : Image) : imageOf? (img.toList.take 96) = some img := by
  rw [List.take_of_length_le (by simp), imageOf?, dif_pos (by simp)]
  rfl

theorem judgeSetup_refused {img : Image} {r : InvalidReason} {d : Byte} (h : s.control.setupAccepted = false)
    (hst : s.control.station = .setupWait) (hr : imageRefusal? img = some (r, d)) :
    judgeSetup s img.toList.length (img.toList.take 96) = .answer .invalid [reasonCode r, d] := by
  rw [judgeSetup, if_neg (by simp [h]), if_neg (not_not.mpr hst), if_neg (by simp), imageOf?_toList]
  simp only [hr]
  rfl

theorem judgeSetup_accepted {img : Image} (h : s.control.setupAccepted = false) (hst : s.control.station = .setupWait)
    (hr : imageRefusal? img = none) : judgeSetup s img.toList.length (img.toList.take 96) = .accepted img := by
  rw [judgeSetup, if_neg (by simp [h]), if_neg (not_not.mpr hst), if_neg (by simp), imageOf?_toList]
  simp only [hr]

end

/-- A SETUP that is answered changes the port alone. -/
theorem setup_answered {body : RequestBody} {s : State} {r : Result} {payload : List Byte} (h : s.portLive = true)
    (hr : s.service.response = none) (hx : s.service.rx = none) (hw : body.wellFormed = true)
    (hjudged : judgeRequest (emptied s) (wholeRequest 6#8 body) = .answer r payload) :
    (receiveAll 6#8 body s).control = s.control ∧
      (receiveAll 6#8 body s).service.response = some (responseBytes 6#8 r payload) := by
  rw [receiveAll_answered h hr hx hw hjudged]
  exact ⟨rfl, rfl⟩

theorem setup_accepted {body : RequestBody} {s : State} {img : Image} (h : s.portLive = true) (hr : s.service.response = none)
    (hx : s.service.rx = none) (hw : body.wellFormed = true)
    (hjudged : judgeRequest (emptied s) (wholeRequest 6#8 body) = .accepted img) :
    (receiveAll 6#8 body s).control =
        { s.control with setupAccepted := true, storeStatus := .corrupt, storeWrite := some img, station := .storing } ∧
      (receiveAll 6#8 body s).service.answerOwed = true ∧ (receiveAll 6#8 body s).service.response = none := by
  rw [receiveAll_idle 6#8 body s h hr hx hw, takeRequest, hjudged]
  exact ⟨rfl, rfl, hr⟩

/-! ### The tests of an image, in the words of R172 -/

/-- The first of a row that a test finds. -/
theorem find?_finRange_eq_some {n : Nat} {p : Fin n → Bool} {k : Fin n} (hk : p k = true) (hfirst : ∀ j, j < k → p j = false) :
    (List.finRange n).find? p = some k := by
  rw [List.find?_eq_some_iff_getElem]
  refine ⟨hk, k.val, by rw [List.length_finRange]; exact k.isLt, by rw [List.getElem_finRange]; rfl, fun j hj => ?_⟩
  rw [List.getElem_finRange, Bool.not_eq_true']
  exact hfirst _ hj

theorem find?_finRange_eq_none {n : Nat} {p : Fin n → Bool} (h : ∀ k, p k = false) : (List.finRange n).find? p = none := by
  rw [List.find?_eq_none]
  exact fun k _ hk => Bool.false_ne_true ((h k).symm.trans hk)

theorem any_finRange_eq_false {n : Nat} {p : Fin n → Bool} : (List.finRange n).any p = false ↔ ∀ k, p k = false := by
  simp [List.any_eq_false]

section
variable {img : Image}

theorem format_ok : img[0].toNat = 1 ↔ img[0] = 1#8 := (BitVec.toNat_inj (x := img[0]) (y := 1#8))

theorem bits_ok :
    (img[3].toNat ≤ 1 ∧ (∀ g : GroupNo, (img[6 + g.val]).toNat < 16) ∧ ∀ n : LineNo, (img[14 + 2 * n.val]).toNat < 32) ↔
      ¬(1 < (img[3]).toNat ∨ (List.finRange 8).any (fun g => decide (16 ≤ (img[6 + g.val]).toNat)) ∨
        (List.finRange 16).any (fun n => decide (32 ≤ (imagePointByte img n).toNat))) := by
  simp only [not_or, Bool.not_eq_true, any_finRange_eq_false, decide_eq_false_iff_not, not_le, not_lt]
  rfl

theorem groups_ok :
    (img[5].toNat ≤ 7 ∧ ∀ n : LineNo, (img[15 + 2 * n.val]).toNat ≤ 7) ↔
      ¬(7 < (img[5]).toNat ∨ (List.finRange 16).any (fun n => decide (7 < (imagePointGroup img n).toNat))) := by
  simp only [not_or, Bool.not_eq_true, any_finRange_eq_false, decide_eq_false_iff_not, not_lt]
  rfl

/-- Step 8: what makes an output record faulty. -/
theorem outputFaulty_iff (k : LineNo) :
    outputFaulty img k = true ↔
      8 ≤ (img[46 + 3 * k.val]).toNat % 16 ∨ (img[46 + 3 * k.val]).toNat / 16 % 8 ≠ 0 ∨
        ((img[46 + 3 * k.val]).toNat % 16 = 1 ∧
          ((img[47 + 3 * k.val]).toNat = 0 ∨ 48 < (img[47 + 3 * k.val]).toNat ∨ 16 < (img[48 + 3 * k.val]).toNat)) ∨
        ((img[46 + 3 * k.val]).toNat % 16 = 2 ∧ (7 < (img[47 + 3 * k.val]).toNat ∨ (img[48 + 3 * k.val]).toNat ≠ 0)) ∨
        ((img[46 + 3 * k.val]).toNat % 16 ≠ 1 ∧ (img[46 + 3 * k.val]).toNat % 16 ≠ 2 ∧
          ((img[47 + 3 * k.val]).toNat ≠ 0 ∨ (img[48 + 3 * k.val]).toNat ≠ 0)) := by
  unfold outputFaulty
  dsimp only
  split
  · next hkind => simp [hkind, or_assoc]
  · next hkind => simp [hkind]
  · next hone htwo =>
    have hone' : ¬(img[46 + 3 * k.val]).toNat % 16 = 1 := hone
    have htwo' : ¬(img[46 + 3 * k.val]).toNat % 16 = 2 := htwo
    simp [hone', htwo', or_assoc]

/-- Step 9: the group a point record names, where step 7 has passed. -/
theorem needsLockin_iff {n : LineNo} (h : (img[15 + 2 * n.val]).toNat ≤ 7) :
    needsLockin img n = true ↔
      (img[14 + 2 * n.val]).getLsbD 0 = true ∧ (img[14 + 2 * n.val]).getLsbD 2 = true ∧
        ∃ g : GroupNo, (img[15 + 2 * n.val]).toNat = g.val ∧ (img[6 + g.val]).getLsbD 0 = false := by
  have hgroup : (groupOf (imagePointGroup img n)).val = (img[15 + 2 * n.val]).toNat := Nat.mod_eq_of_lt (Nat.lt_succ_of_le h)
  have hmomentary : imageSensitivity img n = .momentary ↔ (img[14 + 2 * n.val]).getLsbD 2 = true := by
    unfold imageSensitivity imagePointByte
    split
    · next h => exact ⟨fun _ => h, fun _ => rfl⟩
    · next h => exact ⟨nofun, fun h' => absurd h' h⟩
  rw [needsLockin, Bool.and_eq_true, Bool.and_eq_true, decide_eq_true_eq, hmomentary, Bool.not_eq_true', and_assoc]
  refine and_congr_right fun _ => and_congr_right fun _ => ⟨fun hlock => ⟨_, hgroup.symm, hlock⟩, fun ⟨g, hg, hlock⟩ => ?_⟩
  rw [show groupOf (imagePointGroup img n) = g from Fin.ext (hgroup.trans hg)]
  exact hlock

/-! ### The refusal of each test in its place -/

/-- An image that passes steps 2 to 5 of R172: check value, format number, rate and interval. -/
structure PassesHeader (img : Image) : Prop where
  check : crc16 (img.toList.take 94) = imageCheck img
  format : img[0].toNat = 1
  rate : img[1].toNat ≤ 2
  interval : img[2].toNat ≤ 3

/-- An image that passes steps 2 to 7: the zero bits and the groups too. -/
structure PassesFields (img : Image) : Prop where
  header : PassesHeader img
  bits : img[3].toNat ≤ 1 ∧ (∀ g : GroupNo, (img[6 + g.val]).toNat < 16) ∧ ∀ n : LineNo, (img[14 + 2 * n.val]).toNat < 32
  groups : img[5].toNat ≤ 7 ∧ ∀ n : LineNo, (img[15 + 2 * n.val]).toNat ≤ 7

theorem imageRefusal?_badFormat (hcheck : crc16 (img.toList.take 94) = imageCheck img) (h : ¬img[0].toNat = 1) :
    imageRefusal? img = some (.badFormat, 0#8) :=
  (if_neg (not_not.mpr hcheck)).trans (if_pos fun h' => h (format_ok.mpr h'))

theorem imageRefusal?_badRate (hcheck : crc16 (img.toList.take 94) = imageCheck img) (hformat : img[0].toNat = 1)
    (h : ¬img[1].toNat ≤ 2) : imageRefusal? img = some (.badRate, 0#8) :=
  (if_neg (not_not.mpr hcheck)).trans ((if_neg (not_not.mpr (format_ok.mp hformat))).trans (if_pos (not_le.mp h)))

theorem imageRefusal?_badInterval (hcheck : crc16 (img.toList.take 94) = imageCheck img) (hformat : img[0].toNat = 1)
    (hrate : img[1].toNat ≤ 2) (h : ¬img[2].toNat ≤ 3) : imageRefusal? img = some (.badInterval, 0#8) :=
  (if_neg (not_not.mpr hcheck)).trans ((if_neg (not_not.mpr (format_ok.mp hformat))).trans
    ((if_neg (not_lt.mpr hrate)).trans (if_pos (not_le.mp h))))

/-- Past its header an image is judged by the tests from step 6 on. -/
theorem imageRefusal?_badBits (hpast : PassesHeader img)
    (h : ¬(img[3].toNat ≤ 1 ∧ (∀ g : GroupNo, (img[6 + g.val]).toNat < 16) ∧ ∀ n : LineNo, (img[14 + 2 * n.val]).toNat < 32)) :
    imageRefusal? img = some (.badFormat, 0#8) := by
  rw [bits_ok, not_not] at h
  rw [imageRefusal?, if_neg (not_not.mpr hpast.check), if_neg (not_not.mpr (format_ok.mp hpast.format)), if_neg (not_lt.mpr hpast.rate),
    if_neg (not_lt.mpr hpast.interval), if_pos h]

theorem imageRefusal?_badGroup (hpast : PassesHeader img)
    (hbits : img[3].toNat ≤ 1 ∧ (∀ g : GroupNo, (img[6 + g.val]).toNat < 16) ∧ ∀ n : LineNo, (img[14 + 2 * n.val]).toNat < 32)
    (h : ¬(img[5].toNat ≤ 7 ∧ ∀ n : LineNo, (img[15 + 2 * n.val]).toNat ≤ 7)) :
    imageRefusal? img = some (.badGroup, 0#8) := by
  rw [groups_ok, not_not] at h
  rw [imageRefusal?, if_neg (not_not.mpr hpast.check), if_neg (not_not.mpr (format_ok.mp hpast.format)), if_neg (not_lt.mpr hpast.rate),
    if_neg (not_lt.mpr hpast.interval), if_neg (bits_ok.mp hbits), if_pos h]

section
variable (hpast : PassesFields img)
include hpast

theorem imageRefusal?_badOutput {k : LineNo} (h : (List.finRange 16).find? (outputFaulty img) = some k) :
    imageRefusal? img = some (.badOutput, byteOf k.val) := by
  rw [imageRefusal?, if_neg (not_not.mpr hpast.header.check), if_neg (not_not.mpr (format_ok.mp hpast.header.format)),
    if_neg (not_lt.mpr hpast.header.rate), if_neg (not_lt.mpr hpast.header.interval), if_neg (bits_ok.mp hpast.bits),
    if_neg (groups_ok.mp hpast.groups), h]

theorem imageRefusal?_needsLockin {n : LineNo} (houtputs : (List.finRange 16).find? (outputFaulty img) = none)
    (h : (List.finRange 16).find? (needsLockin img) = some n) : imageRefusal? img = some (.momentaryNeedsLockin, byteOf n.val) := by
  rw [imageRefusal?, if_neg (not_not.mpr hpast.header.check), if_neg (not_not.mpr (format_ok.mp hpast.header.format)),
    if_neg (not_lt.mpr hpast.header.rate), if_neg (not_lt.mpr hpast.header.interval), if_neg (bits_ok.mp hpast.bits),
    if_neg (groups_ok.mp hpast.groups), houtputs, h]

theorem imageRefusal?_none (houtputs : (List.finRange 16).find? (outputFaulty img) = none)
    (h : (List.finRange 16).find? (needsLockin img) = none) : imageRefusal? img = none := by
  rw [imageRefusal?, if_neg (not_not.mpr hpast.header.check), if_neg (not_not.mpr (format_ok.mp hpast.header.format)),
    if_neg (not_lt.mpr hpast.header.rate), if_neg (not_lt.mpr hpast.header.interval), if_neg (bits_ok.mp hpast.bits),
    if_neg (groups_ok.mp hpast.groups), houtputs, h]

end

end

/-- Settles O51: the judgement in order, and the tests of an image in theirs. -/
theorem setupIsJudgedInOrder : Obligations.SetupIsJudgedInOrder := by
  refine ⟨fun s body h hr hx hw => ⟨receiveAll 6#8 body s, rfl, fun hsum => ?_, fun hsum hstoring => ?_, fun hsum hfree =>
    ⟨fun hset => ?_, fun hnot hst => ?_, fun hnot hst hlen => ?_, fun img hnot hst himg => ⟨fun r d hrefused => ?_, fun hvalid => ?_⟩⟩, ?_⟩,
    rfl, fun img => ⟨?_, fun h2 => if_pos h2, imageRefusal?_badFormat, imageRefusal?_badRate, imageRefusal?_badInterval,
      fun h2 h3 h4 h5 => imageRefusal?_badBits ⟨h2, h3, h4, h5⟩, fun h2 h3 h4 h5 => imageRefusal?_badGroup ⟨h2, h3, h4, h5⟩,
      fun h2 h3 h4 h5 h6 h7 => ?_⟩⟩
  · exact setup_answered h hr hx hw (judgeRequest_badCheck hsum)
  · exact setup_answered h hr hx hw (judgeRequest_busy hsum (by decide) ⟨hstoring, by decide⟩)
  · exact setup_answered h hr hx hw ((judgeRequest_setup hsum hfree).trans (judgeSetup_alreadySet hset))
  · exact setup_answered h hr hx hw ((judgeRequest_setup hsum hfree).trans (judgeSetup_locked hnot hst))
  · exact setup_answered h hr hx hw ((judgeRequest_setup hsum hfree).trans (judgeSetup_badLength hnot hst hlen))
  · have hjudged := judgeSetup_refused (s := emptied s) hnot hst hrefused
    rw [himg] at hjudged
    exact setup_answered h hr hx hw ((judgeRequest_setup hsum hfree).trans hjudged)
  · have hjudged := judgeSetup_accepted (s := emptied s) hnot hst hvalid
    rw [himg] at hjudged
    exact setup_accepted h hr hx hw ((judgeRequest_setup hsum hfree).trans hjudged)
  · rw [receiveAll_idle 6#8 body s h hr hx hw]
    exact takeRequest_frame (wholeRequest 6#8 body) (emptied s)
  · rw [imageValid, Option.isNone_iff_eq_none]
  · have hpast : PassesFields img := ⟨⟨h2, h3, h4, h5⟩, h6, h7⟩
    refine ⟨fun k hk hfirst => imageRefusal?_badOutput hpast (find?_finRange_eq_some ((outputFaulty_iff k).mpr hk) fun j hj => ?_),
      fun hsound => ?_⟩
    · exact Bool.eq_false_iff.mpr fun hfaulty => hfirst j hj ((outputFaulty_iff j).mp hfaulty)
    · have houtputs := find?_finRange_eq_none (p := outputFaulty img) fun k =>
        Bool.eq_false_iff.mpr fun hfaulty => hsound k ((outputFaulty_iff k).mp hfaulty)
      obtain ⟨-, hgroups⟩ := h7
      refine ⟨fun n hn hfirst => imageRefusal?_needsLockin hpast houtputs
        (find?_finRange_eq_some ((needsLockin_iff (hgroups n)).mpr hn) fun j hj => ?_), fun hnone => ?_⟩
      · exact Bool.eq_false_iff.mpr fun hlacks => hfirst j hj ((needsLockin_iff (hgroups j)).mp hlacks)
      · exact imageRefusal?_none hpast houtputs (find?_finRange_eq_none fun n =>
          Bool.eq_false_iff.mpr fun hlacks => hnone n ((needsLockin_iff (hgroups n)).mp hlacks))

end Sys2Proof.Machine
